-- ==== Sys2Proof/Word.lean ====
section
/-!
DEFINITION. The values the engine works on: bytes and byte sequences (R9, R10 of 00_scope.md), the
typed arguments of the payload commands (R78 of 30_encoding.md), and the Device State record
(R29, R31 of 10_state.md).
-/

namespace Sys2Proof

/-- R9: an unsigned 8-bit value, bit 0 least significant. -/
abbrev Byte := BitVec 8

/-- R10: a finite sequence of bytes, index 0 first. -/
abbrev Bytes := List Byte

/-- The one-byte argument of TEST_MODE, LED_RED and LED_GREEN (R78). -/
inductive ByteArg where
  /-- `payload[1]` lies beyond the payload: R173's argument out of bounds. -/
  | missing
  /-- `payload[1]`. -/
  | byte (v : Byte)
  deriving DecidableEq, Repr

/-- The arguments of BUZZER (R78, R84, R170). -/
inductive BuzzerArg where
  /-- No `payload[1]`: shorter than 2 bytes. -/
  | missing
  /-- A non-pulsing state, `payload[1]` other than 0x02 (checked by `Instr.wf`). -/
  | state (v : Byte)
  /-- The pulsing state 0x02 with fewer than 8 payload bytes. -/
  | pulseMissing
  /-- The pulsing state 0x02 with its three big-endian fields. -/
  | pulse (count interval duration : BitVec 16)
  deriving DecidableEq, Repr

/-- The arguments of SET_TIME (R78, R83, R171). -/
inductive TimeArg where
  /-- Fewer than 6 payload bytes. -/
  | missing
  /-- The reserved `payload[1]`, which is ignored, and the little-endian time. -/
  | time (reserved : Byte) (t : BitVec 32)
  deriving DecidableEq, Repr

/-- Declared width of a Device State field (R201: 8, 16 or 32 bits). -/
inductive FieldWidth where
  | w8 | w16 | w32
  deriving DecidableEq, Repr

/-- One field of a Device State record, with its value. -/
inductive DevField where
  | f8 (v : BitVec 8)
  | f16 (v : BitVec 16)
  | f32 (v : BitVec 32)
  deriving DecidableEq, Repr

/-- R31: a tagged record; the tag is the protocol revision, the fields stand in declaration order. -/
structure DevRecord where
  variant : Nat
  fields  : List DevField
  deriving DecidableEq, Repr

/-- Which fault register FAULT_READ reads and a fault is recorded in (R32, R212). -/
inductive FaultSel where
  /-- `FAULT_G`. -/
  | global
  /-- `FAULT[k]`. -/
  | ofInst (k : Nat)
  deriving DecidableEq, Repr

end Sys2Proof
end

