-- ==== Sys2Proof/Config.lean ====
section
/-!
DEFINITION. The implementation parameters of R8 (00_scope.md): OPCODE_MAP, the Device State layouts
that stand for PROTO_VARIANT, STATE_SIZE and DEVSTATE_SERIALIZE, and N_INSTANCES. A configuration is
plain data held in the State and written by no step, so a claim about all states is a claim about all
configurations (notes/assumptions/1.md). No value of this hardware needs a constant without a body.
-/

namespace Sys2Proof

/-- The 17 opcode names of R80 (30_encoding.md), in its order. -/
inductive Opcode where
  | echo | ack | testMode | setTime | txd | rxd | output | requestToExit | doorControl
  | relay | tamper | button | buzzer | ledRed | ledGreen | ledBlue | wifiCredentials
  deriving DecidableEq, Repr

/-- Every opcode name, in R80's order. -/
def Opcode.all : List Opcode :=
  [.echo, .ack, .testMode, .setTime, .txd, .rxd, .output, .requestToExit, .doorControl,
   .relay, .tamper, .button, .buzzer, .ledRed, .ledGreen, .ledBlue, .wifiCredentials]

/-- OPCODE_MAP (R8, R80): the byte value of each named opcode. -/
structure OpcodeMap where
  echo            : Byte
  ack             : Byte
  testMode        : Byte
  setTime         : Byte
  txd             : Byte
  rxd             : Byte
  output          : Byte
  requestToExit   : Byte
  doorControl     : Byte
  relay           : Byte
  tamper          : Byte
  button          : Byte
  buzzer          : Byte
  ledRed          : Byte
  ledGreen        : Byte
  ledBlue         : Byte
  wifiCredentials : Byte
  deriving DecidableEq, Repr

/-- The map as a function of the name. -/
def OpcodeMap.byte (m : OpcodeMap) : Opcode → Byte
  | .echo            => m.echo
  | .ack             => m.ack
  | .testMode        => m.testMode
  | .setTime         => m.setTime
  | .txd             => m.txd
  | .rxd             => m.rxd
  | .output          => m.output
  | .requestToExit   => m.requestToExit
  | .doorControl     => m.doorControl
  | .relay           => m.relay
  | .tamper          => m.tamper
  | .button          => m.button
  | .buzzer          => m.buzzer
  | .ledRed          => m.ledRed
  | .ledGreen        => m.ledGreen
  | .ledBlue         => m.ledBlue
  | .wifiCredentials => m.wifiCredentials

/-- The 17 values, in R80's order. -/
def OpcodeMap.bytes (m : OpcodeMap) : Bytes := Opcode.all.map m.byte

/-- R8's parameters. `variants` lists the Device State layouts, one per protocol revision; a
revision's identifier is its index in the list (notes/assumptions/3.md, DESIGN CHOICE). -/
structure Config where
  opcodeMap  : OpcodeMap
  variants   : List (List FieldWidth)
  nInstances : Nat
  deriving DecidableEq, Repr

end Sys2Proof
end

