-- ==== Sys2Proof/Machine/Operands.lean ====
section
/-!
DEFINITION. How the operations read their operands: slices of byte sequences (R10), Device State
records, their layout and their serialization (R29, R31, R201), and the well-formedness of a
configuration (R8).
-/

namespace Sys2Proof

/-- R10: `b[i..j)`, the bytes at indices i to j - 1. -/
def slice (b : Bytes) (i j : Nat) : Bytes := (b.take j).drop i

/-- Bytes a field of this width takes (R201). -/
def FieldWidth.size : FieldWidth → Nat
  | .w8 => 1
  | .w16 => 2
  | .w32 => 4

/-- Declared width of a field. -/
def DevField.width : DevField → FieldWidth
  | .f8 _ => .w8
  | .f16 _ => .w16
  | .f32 _ => .w32

/-- The zero field of a width (R29). -/
def FieldWidth.zero : FieldWidth → DevField
  | .w8 => .f8 0
  | .w16 => .f16 0
  | .w32 => .f32 0

/-- R201: a field in its declared width, least significant byte first. -/
def DevField.serialize : DevField → Bytes
  | .f8 v => [v]
  | .f16 v => [v.extractLsb' 0 8, v.extractLsb' 8 8]
  | .f32 v => [v.extractLsb' 0 8, v.extractLsb' 8 8, v.extractLsb' 16 8, v.extractLsb' 24 8]

/-- DEVSTATE_SERIALIZE (R201): fields in declaration order, no padding. -/
def DevRecord.serialize (r : DevRecord) : Bytes := r.fields.flatMap DevField.serialize

/-- STATE_SIZE of a layout (R8). -/
def stateSize (l : List FieldWidth) : Nat := (l.map FieldWidth.size).sum

/-- Is `r` a record of revision `v`: its tag is `v` and its fields have the widths the configuration
gives `v` (R31, R211; notes/assumptions/12.md). -/
def DevRecord.isOf (c : Config) (v : Nat) (r : DevRecord) : Bool :=
  r.variant == v && c.variants[v]? == some (r.fields.map DevField.width)

/-- R240: the record of revision `v` with every field 0. -/
def zeroRecord (c : Config) (v : Nat) : DevRecord :=
  ⟨v, ((c.variants[v]?).getD []).map FieldWidth.zero⟩

/-- R8: the 17 values are pairwise distinct, none is 0xFF, and LED_RED is 0x0D. -/
def OpcodeMap.wf (m : OpcodeMap) : Bool :=
  decide m.bytes.Nodup && !(m.bytes.contains 0xFF#8) && m.ledRed == 0x0D#8

/-- R8: the opcode map is well-formed and every STATE_SIZE is at most 252. -/
def Config.wf (c : Config) : Bool :=
  c.opcodeMap.wf && c.variants.all (fun l => decide (stateSize l ≤ 252))

end Sys2Proof
end

