-- ==== Sys2Proof/Syntax.lean ====
section
/-!
DEFINITION. The instructions: one constructor per row of spec/opcode_table.json. The 13 interface
operations (R71 of 30_encoding.md) carry the operands the caller passes. The 19 payload commands
(R78, R80, R82) carry the instance PARSE names and their typed arguments; each is the PARSE
transaction of a payload that decodes to it (R86, notes/assumptions/15.md).
-/

namespace Sys2Proof

/-- One constructor per row of spec/opcode_table.json. -/
inductive Instr where
  /-- ECHO (R165). -/
  | echo (k : Nat)
  /-- ACK (R166). -/
  | ack (k : Nat)
  /-- TEST_MODE (R167). -/
  | testMode (k : Nat) (level : ByteArg)
  /-- SET_TIME (R171). -/
  | setTime (k : Nat) (time : TimeArg)
  /-- TXD (R172). -/
  | txd (k : Nat)
  /-- RXD (R172). -/
  | rxd (k : Nat)
  /-- OUTPUT (R172). -/
  | output (k : Nat)
  /-- REQUEST_TO_EXIT (R172). -/
  | requestToExit (k : Nat)
  /-- DOOR_CONTROL (R172). -/
  | doorControl (k : Nat)
  /-- RELAY (R172). -/
  | relay (k : Nat)
  /-- TAMPER (R172). -/
  | tamper (k : Nat)
  /-- BUTTON (R172). -/
  | button (k : Nat)
  /-- BUZZER (R170). -/
  | buzzer (k : Nat) (arg : BuzzerArg)
  /-- LED_RED (R168). -/
  | ledRed (k : Nat) (intensity : ByteArg)
  /-- LED_GREEN (R169). -/
  | ledGreen (k : Nat) (intensity : ByteArg)
  /-- LED_BLUE (R172). -/
  | ledBlue (k : Nat)
  /-- WIFI_CREDENTIALS (R172). -/
  | wifiCredentials (k : Nat)
  /-- UNKNOWN (R172): an opcode byte that OPCODE_MAP gives no name. -/
  | unknown (k : Nat) (op : Byte)
  /-- EMPTY_PAYLOAD (R175). -/
  | emptyPayload (k : Nat)
  /-- CRC8_COMPUTE (R104). -/
  | crc8Compute (b : Bytes)
  /-- CRC8_VERIFY (R105). -/
  | crc8Verify (b : Bytes) (expected : Byte)
  /-- FRAME_ENCODE (R120). -/
  | frameEncode (p : Bytes)
  /-- FRAME_STRIP (R124). -/
  | frameStrip (f : Bytes)
  /-- FRAME_VALIDATE (R127). -/
  | frameValidate (f : Bytes)
  /-- FRAME_SCAN (R134). -/
  | frameScan (buf : Bytes)
  /-- PARSE (R160). -/
  | parse (k : Nat) (p : Bytes)
  /-- BUILD_ACK (R200). -/
  | buildAck (k : Nat) (op : Byte)
  /-- MODE_READ (R210). -/
  | modeRead (k : Nat)
  /-- DEVSTATE_LOAD (R211). -/
  | devstateLoad (k : Nat) (r : DevRecord)
  /-- FAULT_READ (R212). -/
  | faultRead (sel : FaultSel)
  /-- CONNECT (R240); `v` is the protocol revision. -/
  | connect (k : Nat) (v : Nat)
  /-- DISCONNECT (R242). -/
  | disconnect (k : Nat)
  deriving DecidableEq, Repr

/-- R71's column "names an instance": the instance an instruction names, if it names one. -/
def Instr.names : Instr → Option Nat
  | .echo k => some k
  | .ack k => some k
  | .testMode k _ => some k
  | .setTime k _ => some k
  | .txd k => some k
  | .rxd k => some k
  | .output k => some k
  | .requestToExit k => some k
  | .doorControl k => some k
  | .relay k => some k
  | .tamper k => some k
  | .button k => some k
  | .buzzer k _ => some k
  | .ledRed k _ => some k
  | .ledGreen k _ => some k
  | .ledBlue k => some k
  | .wifiCredentials k => some k
  | .unknown k _ => some k
  | .emptyPayload k => some k
  | .crc8Compute _ => none
  | .crc8Verify _ _ => none
  | .frameEncode _ => none
  | .frameStrip _ => none
  | .frameValidate _ => none
  | .frameScan _ => none
  | .parse k _ => some k
  | .buildAck k _ => some k
  | .modeRead k => some k
  | .devstateLoad k _ => some k
  | .faultRead .global => none
  | .faultRead (.ofInst k) => some k
  | .connect k _ => some k
  | .disconnect k => some k

end Sys2Proof
end

