-- ==== Sys2Proof/WellFormed.lean ====
section
/-!
DEFINITION. When an instruction is one the spec's operand descriptions admit: its instance exists
(R20, R240), a non-pulsing BUZZER state is not 0x02 (R84), an UNKNOWN opcode has no name (R82), a
DEVSTATE_LOAD record is a record of a configured revision (R211), and CONNECT names a configured
revision (R240). The lengths FRAME_ENCODE and FRAME_STRIP accept are no part of it: the spec gives
their faults.
-/

namespace Sys2Proof

/-- The instance an instruction names lies below N_INSTANCES. -/
def Instr.instanceOk (c : Config) (i : Instr) : Bool :=
  match i.names with
  | some k => decide (k < c.nInstances)
  | none => true

/-- The other operands are in their ranges. -/
def Instr.operandsOk (c : Config) : Instr → Bool
  | .buzzer _ (.state v) => v != 0x02#8
  | .buzzer _ .missing | .buzzer _ .pulseMissing | .buzzer _ (.pulse _ _ _) => true
  | .unknown _ op => !(c.opcodeMap.bytes.contains op)
  | .devstateLoad _ r => r.isOf c r.variant
  | .connect _ v => decide (v < c.variants.length)
  | .echo _ | .ack _ | .testMode _ _ | .setTime _ _ | .txd _ | .rxd _ | .output _
  | .requestToExit _ | .doorControl _ | .relay _ | .tamper _ | .button _ | .ledRed _ _
  | .ledGreen _ _ | .ledBlue _ | .wifiCredentials _ | .emptyPayload _ | .crc8Compute _
  | .crc8Verify _ _ | .frameEncode _ | .frameStrip _ | .frameValidate _ | .frameScan _
  | .parse _ _ | .buildAck _ _ | .modeRead _ | .faultRead _ | .disconnect _ => true

/-- An instruction whose operands the spec admits under configuration `c`. -/
def Instr.wf (c : Config) (i : Instr) : Bool := i.instanceOk c && i.operandsOk c

end Sys2Proof
end

