-- ==== Sys2Proof/Decode.lean ====
section
/-!
DEFINITION. Decoding a payload into a command and encoding it back (30_encoding.md). Every byte
sequence decodes: no opcode value is illegal (R82) and a missing argument is a form of its own (R173),
so the decoder rejects nothing. Interface operations have no byte encoding (R70).
-/

namespace Sys2Proof

/-- R10: big-endian assembly of two bytes. -/
def be16 (h l : Byte) : BitVec 16 := (h.setWidth 16 <<< 8) ||| l.setWidth 16

/-- R10: little-endian assembly of four bytes. -/
def le32 (b0 b1 b2 b3 : Byte) : BitVec 32 :=
  b0.setWidth 32 ||| (b1.setWidth 32 <<< 8) ||| (b2.setWidth 32 <<< 16) ||| (b3.setWidth 32 <<< 24)

/-- R86: a 16-bit argument, most significant byte first. -/
def be16Bytes (v : BitVec 16) : Bytes := [v.extractLsb' 8 8, v.extractLsb' 0 8]

/-- R86: a 32-bit argument, least significant byte first. -/
def le32Bytes (v : BitVec 32) : Bytes :=
  [v.extractLsb' 0 8, v.extractLsb' 8 8, v.extractLsb' 16 8, v.extractLsb' 24 8]

/-- R80's default map (decision D3; only LED_RED is the source's: notes/assumptions/1.md). -/
def OpcodeMap.default : OpcodeMap where
  echo            := 0x00
  ack             := 0x01
  testMode        := 0x02
  setTime         := 0x03
  txd             := 0x04
  rxd             := 0x05
  output          := 0x06
  requestToExit   := 0x07
  doorControl     := 0x08
  relay           := 0x09
  tamper          := 0x0A
  button          := 0x0B
  buzzer          := 0x0C
  ledRed          := 0x0D
  ledGreen        := 0x0E
  ledBlue         := 0x0F
  wifiCredentials := 0x10

/-- R81: the name whose value equals the byte, by a full 8-bit match; none if no value does. -/
def OpcodeMap.find (m : OpcodeMap) (b : Byte) : Option Opcode :=
  Opcode.all.find? (fun o => m.byte o == b)

/-- R78: TEST_MODE, LED_RED and LED_GREEN read `payload[1]`; `args` is `payload[1..]`. -/
def byteArg : Bytes → ByteArg
  | [] => .missing
  | v :: _ => .byte v

/-- R78, R84, R170: BUZZER reads its state and, when that is 0x02, six more bytes. -/
def buzzerArg : Bytes → BuzzerArg
  | [] => .missing
  | st :: rest =>
    if st = 0x02#8 then
      match rest with
      | c1 :: c0 :: i1 :: i0 :: d1 :: d0 :: _ => .pulse (be16 c1 c0) (be16 i1 i0) (be16 d1 d0)
      | _ => .pulseMissing
    else .state st

/-- R78, R171: SET_TIME needs the reserved byte and four time bytes. -/
def timeArg : Bytes → TimeArg
  | r :: t0 :: t1 :: t2 :: t3 :: _ => .time r (le32 t0 t1 t2 t3)
  | _ => .missing

/-- The command of a named opcode on instance `k`, with its arguments from `payload[1..]`. -/
def decodeNamed (k : Nat) (args : Bytes) : Opcode → Instr
  | .echo            => .echo k
  | .ack             => .ack k
  | .testMode        => .testMode k (byteArg args)
  | .setTime         => .setTime k (timeArg args)
  | .txd             => .txd k
  | .rxd             => .rxd k
  | .output          => .output k
  | .requestToExit   => .requestToExit k
  | .doorControl     => .doorControl k
  | .relay           => .relay k
  | .tamper          => .tamper k
  | .button          => .button k
  | .buzzer          => .buzzer k (buzzerArg args)
  | .ledRed          => .ledRed k (byteArg args)
  | .ledGreen        => .ledGreen k (byteArg args)
  | .ledBlue         => .ledBlue k
  | .wifiCredentials => .wifiCredentials k

/-- R77, R81, R161: the command a payload stands for when PARSE is given it on instance `k`. -/
def decodePayload (m : OpcodeMap) (k : Nat) : Bytes → Instr
  | [] => .emptyPayload k
  | op :: args =>
    match m.find op with
    | some o => decodeNamed k args o
    | none => .unknown k op

/-- The bytes after the opcode of a one-byte-argument command. -/
def byteArgBytes : ByteArg → Bytes
  | .missing => []
  | .byte v => [v]

/-- The bytes after BUZZER's opcode (R78, R86). -/
def buzzerArgBytes : BuzzerArg → Bytes
  | .missing => []
  | .state v => [v]
  | .pulseMissing => [0x02]
  | .pulse c i d => 0x02 :: (be16Bytes c ++ be16Bytes i ++ be16Bytes d)

/-- The bytes after SET_TIME's opcode (R78, R86). -/
def timeArgBytes : TimeArg → Bytes
  | .missing => []
  | .time r t => r :: le32Bytes t

/-- R78, R86: the payload of a command; `none` for an interface operation, which is not
byte-encoded (R70). -/
def encode (m : OpcodeMap) : Instr → Option Bytes
  | .echo _            => some [m.echo]
  | .ack _             => some [m.ack]
  | .testMode _ a      => some (m.testMode :: byteArgBytes a)
  | .setTime _ a       => some (m.setTime :: timeArgBytes a)
  | .txd _             => some [m.txd]
  | .rxd _             => some [m.rxd]
  | .output _          => some [m.output]
  | .requestToExit _   => some [m.requestToExit]
  | .doorControl _     => some [m.doorControl]
  | .relay _           => some [m.relay]
  | .tamper _          => some [m.tamper]
  | .button _          => some [m.button]
  | .buzzer _ a        => some (m.buzzer :: buzzerArgBytes a)
  | .ledRed _ a        => some (m.ledRed :: byteArgBytes a)
  | .ledGreen _ a      => some (m.ledGreen :: byteArgBytes a)
  | .ledBlue _         => some [m.ledBlue]
  | .wifiCredentials _ => some [m.wifiCredentials]
  | .unknown _ op      => some [op]
  | .emptyPayload _    => some []
  | .crc8Compute _     => none
  | .crc8Verify _ _    => none
  | .frameEncode _     => none
  | .frameStrip _      => none
  | .frameValidate _   => none
  | .frameScan _       => none
  | .parse _ _         => none
  | .buildAck _ _      => none
  | .modeRead _        => none
  | .devstateLoad _ _  => none
  | .faultRead _       => none
  | .connect _ _       => none
  | .disconnect _      => none

/-- Byte count of the longest command, the pulsing BUZZER (R78). -/
def longestPayload : Nat := 8

/-- The `n` low bytes of `w`, least significant first. -/
def bytesOfNat : Nat → Nat → Bytes
  | 0, _ => []
  | n + 1, w => BitVec.ofNat 8 w :: bytesOfNat n (w / 256)

/-- The payload a table word stands for: its bytes in order, then zeros up to the longest command.
A row of no bits at all is the empty payload (R175). -/
def tableWordPayload (nbits w : Nat) : Bytes :=
  if nbits = 0 then []
  else
    let n := (nbits + 7) / 8
    bytesOfNat n w ++ List.replicate (longestPayload - n) 0

/-- The command the decoder reads from a table word, on instance 0 under the default map. -/
def decodeTableWord (nbits w : Nat) : Option Instr :=
  some (decodePayload OpcodeMap.default 0 (tableWordPayload nbits w))

end Sys2Proof
end

