-- ==== Sys2Proof/Machine/Rom.lean ====
section
/-!
DEFINITION. The contents the two read-only memories hold from power-on (R21, R22 of 10_state.md,
R102 of 40_crc8.md), R101's generation of the table, and the configuration State.reset uses (R8,
R80; notes/assumptions/1.md, 2.md, 3.md, 16.md).
-/

namespace Sys2Proof.Machine

/-- R102, row 00. -/
def crcRow00 : Bytes :=
  [0x00, 0x07, 0x0E, 0x09, 0x1C, 0x1B, 0x12, 0x15,
   0x38, 0x3F, 0x36, 0x31, 0x24, 0x23, 0x2A, 0x2D]

/-- R102, row 10. -/
def crcRow10 : Bytes :=
  [0x70, 0x77, 0x7E, 0x79, 0x6C, 0x6B, 0x62, 0x65,
   0x48, 0x4F, 0x46, 0x41, 0x54, 0x53, 0x5A, 0x5D]

/-- R102, row 20. -/
def crcRow20 : Bytes :=
  [0xE0, 0xE7, 0xEE, 0xE9, 0xFC, 0xFB, 0xF2, 0xF5,
   0xD8, 0xDF, 0xD6, 0xD1, 0xC4, 0xC3, 0xCA, 0xCD]

/-- R102, row 30. -/
def crcRow30 : Bytes :=
  [0x90, 0x97, 0x9E, 0x99, 0x8C, 0x8B, 0x82, 0x85,
   0xA8, 0xAF, 0xA6, 0xA1, 0xB4, 0xB3, 0xBA, 0xBD]

/-- R102, row 40. -/
def crcRow40 : Bytes :=
  [0xC7, 0xC0, 0xC9, 0xCE, 0xDB, 0xDC, 0xD5, 0xD2,
   0xFF, 0xF8, 0xF1, 0xF6, 0xE3, 0xE4, 0xED, 0xEA]

/-- R102, row 50. -/
def crcRow50 : Bytes :=
  [0xB7, 0xB0, 0xB9, 0xBE, 0xAB, 0xAC, 0xA5, 0xA2,
   0x8F, 0x88, 0x81, 0x86, 0x93, 0x94, 0x9D, 0x9A]

/-- R102, row 60. -/
def crcRow60 : Bytes :=
  [0x27, 0x20, 0x29, 0x2E, 0x3B, 0x3C, 0x35, 0x32,
   0x1F, 0x18, 0x11, 0x16, 0x03, 0x04, 0x0D, 0x0A]

/-- R102, row 70. -/
def crcRow70 : Bytes :=
  [0x57, 0x50, 0x59, 0x5E, 0x4B, 0x4C, 0x45, 0x42,
   0x6F, 0x68, 0x61, 0x66, 0x73, 0x74, 0x7D, 0x7A]

/-- R102, row 80. -/
def crcRow80 : Bytes :=
  [0x89, 0x8E, 0x87, 0x80, 0x95, 0x92, 0x9B, 0x9C,
   0xB1, 0xB6, 0xBF, 0xB8, 0xAD, 0xAA, 0xA3, 0xA4]

/-- R102, row 90. -/
def crcRow90 : Bytes :=
  [0xF9, 0xFE, 0xF7, 0xF0, 0xE5, 0xE2, 0xEB, 0xEC,
   0xC1, 0xC6, 0xCF, 0xC8, 0xDD, 0xDA, 0xD3, 0xD4]

/-- R102, row A0. -/
def crcRowA0 : Bytes :=
  [0x69, 0x6E, 0x67, 0x60, 0x75, 0x72, 0x7B, 0x7C,
   0x51, 0x56, 0x5F, 0x58, 0x4D, 0x4A, 0x43, 0x44]

/-- R102, row B0. -/
def crcRowB0 : Bytes :=
  [0x19, 0x1E, 0x17, 0x10, 0x05, 0x02, 0x0B, 0x0C,
   0x21, 0x26, 0x2F, 0x28, 0x3D, 0x3A, 0x33, 0x34]

/-- R102, row C0. -/
def crcRowC0 : Bytes :=
  [0x4E, 0x49, 0x40, 0x47, 0x52, 0x55, 0x5C, 0x5B,
   0x76, 0x71, 0x78, 0x7F, 0x6A, 0x6D, 0x64, 0x63]

/-- R102, row D0. -/
def crcRowD0 : Bytes :=
  [0x3E, 0x39, 0x30, 0x37, 0x22, 0x25, 0x2C, 0x2B,
   0x06, 0x01, 0x08, 0x0F, 0x1A, 0x1D, 0x14, 0x13]

/-- R102, row E0. -/
def crcRowE0 : Bytes :=
  [0xAE, 0xA9, 0xA0, 0xA7, 0xB2, 0xB5, 0xBC, 0xBB,
   0x96, 0x91, 0x98, 0x9F, 0x8A, 0x8D, 0x84, 0x83]

/-- R102, row F0. -/
def crcRowF0 : Bytes :=
  [0xDE, 0xD9, 0xD0, 0xD7, 0xC2, 0xC5, 0xCC, 0xCB,
   0xE6, 0xE1, 0xE8, 0xEF, 0xFA, 0xFD, 0xF4, 0xF3]

/-- R102: the 256 entries of CRC_TABLE, entry 0 first. -/
def crcTableRom : Bytes :=
  crcRow00 ++ crcRow10 ++ crcRow20 ++ crcRow30 ++
  crcRow40 ++ crcRow50 ++ crcRow60 ++ crcRow70 ++
  crcRow80 ++ crcRow90 ++ crcRowA0 ++ crcRowB0 ++
  crcRowC0 ++ crcRowD0 ++ crcRowE0 ++ crcRowF0

/-- R22: `"#@!"`. -/
def magicRom : Bytes := [0x23, 0x40, 0x21]

/-- R101, R106: one shift of the register, with the polynomial 0x07 where bit 7 leaves it. -/
def crcShift (c : Byte) : Byte := if c.msb then (c <<< 1) ^^^ 0x07 else c <<< 1

/-- R101, R106: eight shifts. -/
def crcShift8 (c : Byte) : Byte :=
  crcShift (crcShift (crcShift (crcShift (crcShift (crcShift (crcShift (crcShift c)))))))

/-- R106: the table-free checksum, equal to the fold of R103 over the table of R102. -/
def crc8Bitwise (b : Bytes) : Byte := b.foldl (fun c x => crcShift8 (c ^^^ x)) 0

/-- 95_test_vectors.md TC4: four fields of 8 bits. -/
def layoutTC4 : List FieldWidth := [.w8, .w8, .w8, .w8]

/-- 95_test_vectors.md TC6: a field of 16 bits, then one of 32. -/
def layoutTC6 : List FieldWidth := [.w16, .w32]

/-- The configuration of State.reset: R80's default map, the spec's two test layouts as revisions 0
and 1, two instances (DESIGN CHOICE, notes/assumptions/1.md, 2.md and 3.md; unsafe for a claim that
rests on one of these values). -/
def defaultConfig : Config where
  opcodeMap  := OpcodeMap.default
  variants   := [layoutTC4, layoutTC6]
  nInstances := 2

end Sys2Proof.Machine
end

