-- ==== Sys2Proof/Machine/State.lean ====
section
/-!
DEFINITION. The state of the engine (10_state.md R20 to R38): the two read-only memories, one register
set per instance, the global fault register; the configuration (R8); and, at the boundary to the
caller, the issued operations and the last operation's return. Plain data throughout.
-/

namespace Sys2Proof.Machine

/-- R25: the Mode record, each field as wide as R25 says. -/
structure Mode where
  echoEn      : Bool
  testLevel   : BitVec 8
  ledRed      : BitVec 8
  ledGreen    : BitVec 8
  buzState    : BitVec 8
  buzCount    : BitVec 16
  buzInterval : BitVec 16
  buzDuration : BitVec 16
  clock       : BitVec 32
  deriving DecidableEq, Repr

/-- R25, R240: every field 0. -/
def Mode.zero : Mode := ⟨false, 0, 0, 0, 0, 0, 0, 0, 0⟩

/-- R32: a sticky fault register. -/
structure FaultReg where
  valid : Bool
  cause : BitVec 8
  deriving DecidableEq, Repr

/-- R32: the reset value. -/
def FaultReg.clear : FaultReg := ⟨false, 0⟩

/-- The register set of one instance (R20, R37). While `live` is false the other registers have no
value the engine can show (R38, R242); what the model keeps in them is read by no operation
(notes/assumptions/5.md). -/
structure Inst where
  /-- LIVE[k] (R33). -/
  live    : Bool
  /-- PROTO_VARIANT[k] (R31). -/
  variant : Nat
  /-- MODE[k] (R25). -/
  mode    : Mode
  /-- DEVSTATE[k] (R29). -/
  dev     : DevRecord
  /-- FAULT[k] (R32). -/
  fault   : FaultReg
  deriving DecidableEq, Repr

/-- An instance at power-on (R38: not live; the rest DESIGN CHOICE, notes/assumptions/5.md). -/
def Inst.powerOn : Inst := ⟨false, 0, Mode.zero, ⟨0, []⟩, FaultReg.clear⟩

/-- R217: the result state of an operation that ends normally. -/
inductive ResultState where
  | ok | checksumMismatch | noFrame | decodeFailure
  deriving DecidableEq, Repr

/-- R221: the engine's two faults. They are recorded and the engine goes on (R220). -/
inductive FaultCode where
  | payloadTooLong | stripShort
  deriving DecidableEq, Repr

/-- R224: why an operation is refused. OVERLAP is absent: the spec has no transition for it (R61,
notes/assumptions/13.md). -/
inductive RefusalCause where
  | notLive | wrongVariant | illFormedConfig
  deriving DecidableEq, Repr

/-- R71's column "outputs". -/
inductive Output where
  /-- No output. -/
  | nothing
  /-- CRC8_COMPUTE's checksum. -/
  | crc (v : Byte)
  /-- CRC8_VERIFY's answer. -/
  | verified (ok : Bool)
  /-- FRAME_ENCODE's and BUILD_ACK's frame, FRAME_STRIP's payload. -/
  | bytes (b : Bytes)
  /-- FRAME_VALIDATE's answer and its mismatch report (R129). -/
  | validated (ok mismatch : Bool)
  /-- FRAME_SCAN's FOUND(offset, length). -/
  | found (offset length : Nat)
  /-- FRAME_SCAN's NO_FRAME. -/
  | noFrame
  /-- PARSE's and MODE_READ's Mode record. -/
  | mode (m : Mode)
  /-- FAULT_READ's register. -/
  | faultReg (r : FaultReg)
  deriving DecidableEq, Repr

/-- R215: what an operation ends in, as its caller sees it. -/
inductive Response where
  /-- Its result state and outputs. -/
  | ret (result : ResultState) (out : Output)
  /-- A fault with its info (R220, R221). -/
  | faulted (f : FaultCode) (info : Nat)
  /-- A refusal (R224). -/
  | refusedOp (r : RefusalCause)
  deriving DecidableEq, Repr

/-- The engine never stops with a fault: a fault of R221 is recorded in FAULT_G and later operations
still run (R220, R227), so it is a next state. No constructor, hence no step raises one
(notes/assumptions/9.md). -/
inductive Fault where
  deriving DecidableEq, Repr

/-- Where the model gives an operation no next state. -/
inductive Refusal where
  /-- Raised by `exec`'s arm of an instruction without a meaning; no arm does. Safe: the run stops. -/
  | notModelled (mnemonic : String)
  /-- Raised by CONNECT of k at or above N_INSTANCES (R240 admits 0 ≤ k < N_INSTANCES and says nothing
  of other values; notes/assumptions/11.md). Safe: the run stops. -/
  | noSuchInstance
  /-- Raised by CONNECT with a protocol revision the configuration does not hold (R240 gives no record
  for it; notes/assumptions/11.md). Safe: the run stops. -/
  | noSuchRevision
  deriving DecidableEq, Repr

/-- The engine's state. -/
structure State where
  /-- CRC_TABLE (R21), read-only. -/
  crcTable : Bytes
  /-- MAGIC (R22), read-only. -/
  magic    : Bytes
  /-- The parameters of R8, written by no operation. -/
  cfg      : Config
  /-- The register sets of instances 0 .. N_INSTANCES - 1 (R20, R233). -/
  insts    : List Inst
  /-- FAULT_G (R32). -/
  faultG   : FaultReg
  /-- R224's mark of a refused run: the first refusal, kept by every later step. -/
  refused  : Option RefusalCause
  /-- The operations the caller has issued, oldest first (R60). The model's own field. -/
  pending  : List Instr
  /-- What the operation that ended last returned to its caller (R215). The model's own field. -/
  response : Option Response
  deriving DecidableEq, Repr

/-- R38 column P, R241: power-on under configuration `c`. -/
def State.powerOn (c : Config) : State where
  crcTable := crcTableRom
  magic    := magicRom
  cfg      := c
  insts    := List.replicate c.nInstances Inst.powerOn
  faultG   := FaultReg.clear
  refused  := none
  pending  := []
  response := none

/-- Power-on under the default configuration. -/
def State.reset : State := State.powerOn defaultConfig

end Sys2Proof.Machine
end

