-- ==== Sys2Proof/Machine/Flags.lean ====
section
/-!
DEFINITION. The engine holds no flags (R34); what stands in their place is computed here: the result
states of R217, the numeric codes of R217 and R221, and the sticky fault registers of R32.
-/

namespace Sys2Proof.Machine

/-- R217: the code of a result state. -/
def ResultState.code : ResultState → Byte
  | .ok => 0x00
  | .checksumMismatch => 0x01
  | .noFrame => 0x02
  | .decodeFailure => 0x03

/-- R221: the code of a fault. -/
def FaultCode.code : FaultCode → Byte
  | .payloadTooLong => 0x10
  | .stripShort => 0x11

/-- R32: record a fault; the first one is kept. -/
def FaultReg.record (r : FaultReg) (f : FaultCode) : FaultReg :=
  if r.valid then r else ⟨true, f.code⟩

/-- R217: the result state of a checksum comparison. -/
def checkResult (ok : Bool) : ResultState := if ok then .ok else .checksumMismatch

end Sys2Proof.Machine
end

