-- ==== Sys2Proof/Machine/Ops.lean ====
section
/-!
DEFINITION. The operations every meaning is built from: reading and writing an instance's registers,
ending an operation in one of R215's three ways (`finish`, `raise`, `refuse`), the checks of R225, the
CRC8 fold (R103), the frame builder (R72, R120) and the frame scan (R134).

The engine has no traps: nothing saves a program counter or a status and nothing returns from an
exception (R226, R227). What it has in their place, the recording of a fault, is the one shared
operation `raise` (R32, R220).
-/

namespace Sys2Proof.Machine

/-! ## Registers -/

/-- The registers of instance `k` if it is live (R33). A `k` at or above N_INSTANCES names no instance
and so is not live (notes/assumptions/10.md). -/
def State.live? (s : State) (k : Nat) : Option Inst :=
  match s.insts[k]? with
  | some x => if x.live then some x else none
  | none => none

/-- Write all registers of instance `k`. -/
def State.setInst (s : State) (k : Nat) (x : Inst) : State := { s with insts := s.insts.set k x }

/-! ## How an operation ends (R215) -/

/-- End normally, with a result state and outputs (R217). -/
def finish (s : State) (rs : ResultState) (o : Output) : State :=
  { s with response := some (.ret rs o) }

/-- Record fault `f` in FAULT_G or FAULT[k] (R32). Both faults of R221 go to FAULT_G. -/
def recordFault (s : State) (f : FaultCode) : FaultSel → State
  | .global => { s with faultG := s.faultG.record f }
  | .ofInst k =>
    match s.insts[k]? with
    | some x => s.setInst k { x with fault := x.fault.record f }
    | none => s

/-- R220: end with fault `f(info)`: no output, and no register written but the fault register. -/
def raise (s : State) (sel : FaultSel) (f : FaultCode) (info : Nat) : State :=
  { recordFault s f sel with response := some (.faulted f info) }

/-- R224: end refused: no outputs, no effect on engine state, the run marked, the first mark kept
(notes/assumptions/8.md). -/
def refuse (s : State) (r : RefusalCause) : State :=
  { s with refused := s.refused.or (some r), response := some (.refusedOp r) }

/-- R225, 1: a configuration that is not well-formed runs nothing. -/
def onConfig (s : State) (body : Host.Outcome State Fault Refusal) :
    Host.Outcome State Fault Refusal :=
  if s.cfg.wf then body else .next (refuse s .illFormedConfig)

/-- R225, 1 and 2: run `body` on the registers of instance `k`, which must be live (R33). -/
def onLive (s : State) (k : Nat) (body : Inst → Host.Outcome State Fault Refusal) :
    Host.Outcome State Fault Refusal :=
  onConfig s
    (match s.live? k with
     | some x => body x
     | none => .next (refuse s .notLive))

/-- R160's frame around every command: work on a copy of MODE[k]; commit it and return OK, or, where
an argument is missing (`none`), write nothing and return DECODE_FAILURE (R162, R173). -/
def command (s : State) (k : Nat) (f : Mode → Option Mode) : Host.Outcome State Fault Refusal :=
  onLive s k fun x =>
    match f x.mode with
    | some m => .next (finish (s.setInst k { x with mode := m }) .ok (.mode m))
    | none => .next (finish s .decodeFailure (.mode x.mode))

/-- A connected instance (R240, R38 column C). -/
def connectedInst (c : Config) (v : Nat) : Inst :=
  ⟨true, v, Mode.zero, zeroRecord c v, FaultReg.clear⟩

/-! ## CRC8 and frames -/

/-- R103: one step of the fold. -/
def crcStep (t : Bytes) (crc b : Byte) : Byte := t.getD (crc ^^^ b).toNat 0

/-- R103: the fold over `b` from seed 0, with table `t`. -/
def crc8 (t : Bytes) (b : Bytes) : Byte := b.foldl (crcStep t) 0

/-- R72, R120, R200: MAGIC, LENGTH, payload, CRC. -/
def buildFrame (t magic p : Bytes) : Bytes :=
  let h := magic ++ [BitVec.ofNat 8 (p.length + 2)] ++ p
  h ++ [crc8 t h]

/-- R75, R127: is the last byte the CRC8 of all bytes before it. The empty sequence has no last byte
and is not valid (R128). -/
def frameValid (t f : Bytes) : Bool :=
  match f.getLast? with
  | some c => crc8 t f.dropLast == c
  | none => false

/-- R136 to R138: a candidate at offset `i` whose LENGTH byte is `l` is a frame: LENGTH is at least 2,
the CRC position `i + 3 + (l - 1)` lies inside the buffer, and the CRC matches. -/
def candidateOk (t buf : Bytes) (i l : Nat) : Bool :=
  decide (2 ≤ l) &&
  match buf[i + 3 + (l - 1)]? with
  | some c => crc8 t (slice buf i (i + 3 + (l - 1))) == c
  | none => false

/-- R134's loop at scan position `i`. The first argument bounds the passes; the position grows on each,
so the length of the buffer is enough (notes/assumptions/19.md). -/
def scanLoop (t magic buf : Bytes) : Nat → Nat → Option (Nat × Nat)
  | 0, _ => none
  | n + 1, i =>
    match buf[i + 3]? with
    | none => none
    | some l =>
      if slice buf i (i + 3) = magic then
        if candidateOk t buf i l.toNat then some (i, l.toNat + 3)
        else scanLoop t magic buf n (i + 3)
      else scanLoop t magic buf n (i + 1)

/-- R134: the offset and the whole length (R142) of the first frame in `buf`. -/
def scanFrame (t magic buf : Bytes) : Option (Nat × Nat) := scanLoop t magic buf buf.length 0

/-! ## Issue of operations -/

/-- R60: take the oldest issued operation. -/
def takePending (s : State) : Option (Instr × State) :=
  match s.pending with
  | [] => none
  | i :: rest => some (i, { s with pending := rest })

/-- Make instance 0 live, as CONNECT 0 with revision 0 does, unless it is live already (R243). -/
def ensureConnected (s : State) : State :=
  match s.live? 0 with
  | some _ => s
  | none => s.setInst 0 (connectedInst s.cfg 0)

/-- Issue PARSE of `p` on instance 0 as the next operation to run, instance 0 being connected. -/
def issueParse (s : State) (p : Bytes) : State :=
  let s' := ensureConnected s
  { s' with pending := .parse 0 p :: s'.pending }

end Sys2Proof.Machine
end

