-- ==== Sys2Proof/Machine/Access.lean ====
section
/-!
DEFINITION. Instance register access (44_instance_access.md): MODE_READ, DEVSTATE_LOAD, FAULT_READ.
-/

namespace Sys2Proof.Machine

/-- R210. -/
def execModeRead (k : Nat) (s : State) : Host.Outcome State Fault Refusal :=
  onLive s k fun x => .next (finish s .ok (.mode x.mode))

/-- R211; a record that is not one of PROTO_VARIANT[k] is refused WRONG_VARIANT. -/
def execDevstateLoad (k : Nat) (r : DevRecord) (s : State) : Host.Outcome State Fault Refusal :=
  onLive s k fun x =>
    if r.isOf s.cfg x.variant then .next (finish (s.setInst k { x with dev := r }) .ok .nothing)
    else .next (refuse s .wrongVariant)

/-- R212; reading does not clear the register. -/
def execFaultRead (sel : FaultSel) (s : State) : Host.Outcome State Fault Refusal :=
  match sel with
  | .global => onConfig s (.next (finish s .ok (.faultReg s.faultG)))
  | .ofInst k => onLive s k fun x => .next (finish s .ok (.faultReg x.fault))

end Sys2Proof.Machine
end

