-- ==== Sys2Proof/Machine/Ack.lean ====
section
/-!
DEFINITION. The acknowledgement builder (43_ack_builder.md): BUILD_ACK.
-/

namespace Sys2Proof.Machine

/-- R200: a frame around the opcode and the serialized Device State; `op` is not checked. -/
def execBuildAck (k : Nat) (op : Byte) (s : State) : Host.Outcome State Fault Refusal :=
  onLive s k fun x =>
    .next (finish s .ok (.bytes (buildFrame s.crcTable s.magic ([op] ++ x.dev.serialize))))

end Sys2Proof.Machine
end

