-- ==== Sys2Proof/Machine/Codec.lean ====
section
/-!
DEFINITION. The frame codec (41_frame_codec.md): FRAME_ENCODE, FRAME_STRIP, FRAME_VALIDATE, FRAME_SCAN.
-/

namespace Sys2Proof.Machine

/-- R120; a payload of more than 253 bytes faults (R122). -/
def execFrameEncode (p : Bytes) (s : State) : Host.Outcome State Fault Refusal :=
  onConfig s
    (if 253 < p.length then .next (raise s .global .payloadTooLong p.length)
     else .next (finish s .ok (.bytes (buildFrame s.crcTable s.magic p))))

/-- R124; fewer than 5 bytes fault (R125), and nothing else is checked (R126). -/
def execFrameStrip (f : Bytes) (s : State) : Host.Outcome State Fault Refusal :=
  onConfig s
    (if f.length < 5 then .next (raise s .global .stripShort f.length)
     else .next (finish s .ok (.bytes (slice f 4 (f.length - 1)))))

/-- R127, R129; the empty sequence gives (false, false) and NO_FRAME (R128). -/
def execFrameValidate (f : Bytes) (s : State) : Host.Outcome State Fault Refusal :=
  onConfig s
    (if f.length = 0 then .next (finish s .noFrame (.validated false false))
     else
       let ok := frameValid s.crcTable f
       .next (finish s (checkResult ok) (.validated ok (!ok))))

/-- R134, R139, R142. -/
def execFrameScan (buf : Bytes) (s : State) : Host.Outcome State Fault Refusal :=
  onConfig s
    (match scanFrame s.crcTable s.magic buf with
     | some (offset, length) => .next (finish s .ok (.found offset length))
     | none => .next (finish s .noFrame .noFrame))

end Sys2Proof.Machine
end

