-- ==== Sys2Proof/Machine/Crc.lean ====
section
/-!
DEFINITION. The CRC8 unit (40_crc8.md): CRC8_COMPUTE and CRC8_VERIFY.
-/

namespace Sys2Proof.Machine

/-- R104. -/
def execCrc8Compute (b : Bytes) (s : State) : Host.Outcome State Fault Refusal :=
  onConfig s (.next (finish s .ok (.crc (crc8 s.crcTable b))))

/-- R105; a false answer is the result state CHECKSUM_MISMATCH (R217). -/
def execCrc8Verify (b : Bytes) (expected : Byte) (s : State) :
    Host.Outcome State Fault Refusal :=
  let ok := crc8 s.crcTable b == expected
  onConfig s (.next (finish s (checkResult ok) (.verified ok)))

end Sys2Proof.Machine
end

