-- ==== Sys2Proof/Machine/Lifecycle.lean ====
section
/-!
DEFINITION. Connection establishment and teardown (70_reset_and_hazards.md): CONNECT, DISCONNECT.
-/

namespace Sys2Proof.Machine

/-- R240: all five registers of instance `k` are written, whether or not it was live. An instance
number outside R240's range and a revision without a layout stop by name (notes/assumptions/11.md). -/
def execConnect (k v : Nat) (s : State) : Host.Outcome State Fault Refusal :=
  onConfig s
    (if k < s.cfg.nInstances then
       if v < s.cfg.variants.length then
         .next (finish (s.setInst k (connectedInst s.cfg v)) .ok .nothing)
       else .refused .noSuchRevision
     else .refused .noSuchInstance)

/-- R242: LIVE[k] is cleared; an instance that is not live is left as it is. -/
def execDisconnect (k : Nat) (s : State) : Host.Outcome State Fault Refusal :=
  onConfig s
    (match s.live? k with
     | some x => .next (finish (s.setInst k { x with live := false }) .ok .nothing)
     | none => .next (finish s .ok .nothing))

end Sys2Proof.Machine
end

