-- ==== Sys2Proof/Machine/Commands.lean ====
section
/-!
DEFINITION. The payload commands PARSE dispatches to (42_command_decoder.md R165 to R175). Each is the
PARSE transaction on instance `k` of a payload that decodes to it.
-/

namespace Sys2Proof.Machine

/-- R165. -/
def execEcho (k : Nat) (s : State) : Host.Outcome State Fault Refusal :=
  command s k fun m => some { m with echoEn := true }

/-- R166: no state change. -/
def execAck (k : Nat) (s : State) : Host.Outcome State Fault Refusal :=
  command s k some

/-- R167. -/
def execTestMode (k : Nat) (level : ByteArg) (s : State) : Host.Outcome State Fault Refusal :=
  command s k fun m =>
    match level with
    | .missing => none
    | .byte v => some { m with testLevel := v }

/-- R171: the reserved byte is ignored (R83). -/
def execSetTime (k : Nat) (time : TimeArg) (s : State) : Host.Outcome State Fault Refusal :=
  command s k fun m =>
    match time with
    | .missing => none
    | .time _ t => some { m with clock := t }

/-- R172. -/
def execTxd (k : Nat) (s : State) : Host.Outcome State Fault Refusal :=
  command s k some

/-- R172. -/
def execRxd (k : Nat) (s : State) : Host.Outcome State Fault Refusal :=
  command s k some

/-- R172. -/
def execOutput (k : Nat) (s : State) : Host.Outcome State Fault Refusal :=
  command s k some

/-- R172. -/
def execRequestToExit (k : Nat) (s : State) : Host.Outcome State Fault Refusal :=
  command s k some

/-- R172. -/
def execDoorControl (k : Nat) (s : State) : Host.Outcome State Fault Refusal :=
  command s k some

/-- R172. -/
def execRelay (k : Nat) (s : State) : Host.Outcome State Fault Refusal :=
  command s k some

/-- R172. -/
def execTamper (k : Nat) (s : State) : Host.Outcome State Fault Refusal :=
  command s k some

/-- R172. -/
def execButton (k : Nat) (s : State) : Host.Outcome State Fault Refusal :=
  command s k some

/-- R170: the three pulse fields are written only in the pulsing state. -/
def execBuzzer (k : Nat) (arg : BuzzerArg) (s : State) : Host.Outcome State Fault Refusal :=
  command s k fun m =>
    match arg with
    | .missing => none
    | .state v => some { m with buzState := v }
    | .pulseMissing => none
    | .pulse c i d =>
      some { m with buzState := 0x02, buzCount := c, buzInterval := i, buzDuration := d }

/-- R168. -/
def execLedRed (k : Nat) (intensity : ByteArg) (s : State) : Host.Outcome State Fault Refusal :=
  command s k fun m =>
    match intensity with
    | .missing => none
    | .byte v => some { m with ledRed := v }

/-- R169. -/
def execLedGreen (k : Nat) (intensity : ByteArg) (s : State) : Host.Outcome State Fault Refusal :=
  command s k fun m =>
    match intensity with
    | .missing => none
    | .byte v => some { m with ledGreen := v }

/-- R172. -/
def execLedBlue (k : Nat) (s : State) : Host.Outcome State Fault Refusal :=
  command s k some

/-- R172. -/
def execWifiCredentials (k : Nat) (s : State) : Host.Outcome State Fault Refusal :=
  command s k some

/-- R172: any opcode without a name is a no-op that reports success; its value is not used. -/
def execUnknown (k : Nat) (_op : Byte) (s : State) : Host.Outcome State Fault Refusal :=
  command s k some

/-- R175: no opcode byte, a decode failure. -/
def execEmptyPayload (k : Nat) (s : State) : Host.Outcome State Fault Refusal :=
  command s k fun _ => none

end Sys2Proof.Machine
end

