-- ==== Sys2Proof/Machine/Parse.lean ====
section
/-!
DEFINITION. PARSE (42_command_decoder.md R160, R161): read the opcode, select the command, run it.
-/

namespace Sys2Proof.Machine

/-- R160: the opcode test comes first (R161), then the command with its arguments from `payload[1..]`;
NOT_LIVE is checked by every command before anything else. -/
def execParse (k : Nat) (p : Bytes) (s : State) : Host.Outcome State Fault Refusal :=
  match p with
  | [] => execEmptyPayload k s
  | op :: args =>
    match s.cfg.opcodeMap.find op with
    | none => execUnknown k op s
    | some .echo => execEcho k s
    | some .ack => execAck k s
    | some .testMode => execTestMode k (byteArg args) s
    | some .setTime => execSetTime k (timeArg args) s
    | some .txd => execTxd k s
    | some .rxd => execRxd k s
    | some .output => execOutput k s
    | some .requestToExit => execRequestToExit k s
    | some .doorControl => execDoorControl k s
    | some .relay => execRelay k s
    | some .tamper => execTamper k s
    | some .button => execButton k s
    | some .buzzer => execBuzzer k (buzzerArg args) s
    | some .ledRed => execLedRed k (byteArg args) s
    | some .ledGreen => execLedGreen k (byteArg args) s
    | some .ledBlue => execLedBlue k s
    | some .wifiCredentials => execWifiCredentials k s

end Sys2Proof.Machine
end

