-- ==== Sys2Proof/Machine/Dispatch.lean ====
section
/-!
DEFINITION. `exec`: one arm per instruction, each one call of the instruction's meaning.
-/

namespace Sys2Proof.Machine

/-- What an instruction does. -/
def exec (i : Instr) (s : State) : Host.Outcome State Fault Refusal :=
  match i with
  | .echo k => Sys2Proof.Machine.execEcho k s
  | .ack k => Sys2Proof.Machine.execAck k s
  | .testMode k level => Sys2Proof.Machine.execTestMode k level s
  | .setTime k time => Sys2Proof.Machine.execSetTime k time s
  | .txd k => Sys2Proof.Machine.execTxd k s
  | .rxd k => Sys2Proof.Machine.execRxd k s
  | .output k => Sys2Proof.Machine.execOutput k s
  | .requestToExit k => Sys2Proof.Machine.execRequestToExit k s
  | .doorControl k => Sys2Proof.Machine.execDoorControl k s
  | .relay k => Sys2Proof.Machine.execRelay k s
  | .tamper k => Sys2Proof.Machine.execTamper k s
  | .button k => Sys2Proof.Machine.execButton k s
  | .buzzer k arg => Sys2Proof.Machine.execBuzzer k arg s
  | .ledRed k intensity => Sys2Proof.Machine.execLedRed k intensity s
  | .ledGreen k intensity => Sys2Proof.Machine.execLedGreen k intensity s
  | .ledBlue k => Sys2Proof.Machine.execLedBlue k s
  | .wifiCredentials k => Sys2Proof.Machine.execWifiCredentials k s
  | .unknown k op => Sys2Proof.Machine.execUnknown k op s
  | .emptyPayload k => Sys2Proof.Machine.execEmptyPayload k s
  | .crc8Compute b => Sys2Proof.Machine.execCrc8Compute b s
  | .crc8Verify b expected => Sys2Proof.Machine.execCrc8Verify b expected s
  | .frameEncode p => Sys2Proof.Machine.execFrameEncode p s
  | .frameStrip f => Sys2Proof.Machine.execFrameStrip f s
  | .frameValidate f => Sys2Proof.Machine.execFrameValidate f s
  | .frameScan buf => Sys2Proof.Machine.execFrameScan buf s
  | .parse k p => Sys2Proof.Machine.execParse k p s
  | .buildAck k op => Sys2Proof.Machine.execBuildAck k op s
  | .modeRead k => Sys2Proof.Machine.execModeRead k s
  | .devstateLoad k r => Sys2Proof.Machine.execDevstateLoad k r s
  | .faultRead sel => Sys2Proof.Machine.execFaultRead sel s
  | .connect k v => Sys2Proof.Machine.execConnect k v s
  | .disconnect k => Sys2Proof.Machine.execDisconnect k s

end Sys2Proof.Machine
end

