-- ==== Sys2Proof/Machine/Step.lean ====
section
/-!
DEFINITION. One step of the machine: run the oldest operation the caller has issued (R5, R60). With
none issued the engine holds its registers (R235).
-/

namespace Sys2Proof.Machine

/-- One transaction. -/
def step (s : State) : Host.Outcome State Fault Refusal :=
  match takePending s with
  | none => .next s
  | some (i, s') => exec i s'

/-- The state whose next step runs the command that the `nbits` low bits of `w` encode: PARSE of those
bytes (zeros above them) is issued on instance 0, which is connected (notes/assumptions/6.md). -/
def State.withFetchWord (s : State) (nbits w : Nat) : State :=
  issueParse s (tableWordPayload nbits w)

end Sys2Proof.Machine
end

