-- ==== Sys2Proof/Machine/Caller.lean ====
section
/-!
DEFINITION. The caller's two pseudo-operations (R87 of 30_encoding.md), as the sequences of interface
operations they expand to. The engine never chains operations itself (R4): these are the caller's.
-/

namespace Sys2Proof.Machine

/-- R87: `SEND cmd` expands to `ENCODE payload(cmd)`; only a command has a payload. -/
def send (m : OpcodeMap) (cmd : Instr) : Option Instr := (encode m cmd).map Instr.frameEncode

/-- R87: `RECV k, buf` is SCAN, and where a frame is found STRIP of it, then PARSE of the payload. -/
def recv (k : Nat) (buf : Bytes) (s : State) : Host.Outcome State Fault Refusal :=
  match exec (.frameScan buf) s with
  | .next s1 =>
    match s1.response with
    | some (.ret _ (.found o n)) =>
      match exec (.frameStrip (slice buf o (o + n))) s1 with
      | .next s2 =>
        match s2.response with
        | some (.ret _ (.bytes p)) => exec (.parse k p) s2
        | _ => .next s2
      | r => r
    | _ => .next s1
  | r => r

end Sys2Proof.Machine
end

