-- ==== Sys2Proof/Safety.lean ====
section
/-!
DEFINITION. What counts as a successful run (R220, R224), the invariant every step keeps, and the words
the claims are stated in: where a frame stands in a buffer (R135 to R138, R142), and when two states
agree on what an operation may read (R37, R38).
-/

namespace Sys2Proof.Machine

/-- R32, R220: some operation of the run has faulted. Every fault of R221 is recorded in FAULT_G, which
nothing clears after power-on. -/
def State.faultedRun (s : State) : Bool := s.faultG.valid

/-- R224: some operation of the run was refused. -/
def State.refusedRun (s : State) : Bool := s.refused.isSome

/-- A state that may end a successful run: a faulted or refused run never does (R220, R224). -/
def State.successful (s : State) : Bool := !s.faultedRun && !s.refusedRun

/-- R32, R221: a fault register is clear or holds a fault code. -/
def FaultReg.Legal (r : FaultReg) : Prop :=
  r = FaultReg.clear ∨ r = ⟨true, FaultCode.payloadTooLong.code⟩ ∨ r = ⟨true, FaultCode.stripShort.code⟩

/-- What holds of every state a run reaches from a power-on. -/
structure State.Inv (s : State) : Prop where
  /-- R21: the table keeps its contents. -/
  table  : s.crcTable = crcTableRom
  /-- R22: the marker keeps its contents. -/
  marker : s.magic = magicRom
  /-- R20: there are N_INSTANCES register sets. -/
  count  : s.insts.length = s.cfg.nInstances
  /-- R29, R31: a live instance's Device State is a record of its revision. -/
  record : ∀ x ∈ s.insts, x.live = true → x.dev.isOf s.cfg x.variant = true
  /-- R32: FAULT_G is clear or holds a fault code. -/
  global : s.faultG.Legal
  /-- R221: no fault names an instance, so every FAULT[k] is clear; while instance k is not live R38
  and R242 give it no value, and that it is clear is the model's choice (notes/assumptions/5.md). -/
  own    : ∀ x ∈ s.insts, x.fault = FaultReg.clear

/-- R135 to R138, R142: the `n` bytes of `buf` from offset `i` are a frame: MAGIC, a LENGTH byte of at
least 2 with n = LENGTH + 3, all inside the buffer, the last byte the CRC8 of the others. -/
def FrameAt (t magic buf : Bytes) (i n : Nat) : Prop :=
  slice buf i (i + 3) = magic ∧
  ∃ l : Byte, buf[i + 3]? = some l ∧ 2 ≤ l.toNat ∧ n = l.toNat + 3 ∧ i + n ≤ buf.length ∧
    buf[i + n - 1]? = some (crc8 t (slice buf i (i + n - 1)))

/-- Two states agree on all an operation naming instance `k` may read (R37). -/
def AgreeOn (k : Nat) (s t : State) : Prop :=
  s.crcTable = t.crcTable ∧ s.magic = t.magic ∧ s.cfg = t.cfg ∧ s.insts[k]? = t.insts[k]?

/-- Two register sets agree as far as any operation may see: both live and equal, or both not live. -/
def Inst.SameLive (x y : Inst) : Prop := x.live = y.live ∧ (x.live = true → x = y)

/-- Two states differ at most in the registers of instances that are not live (R38), the refused mark,
the issued operations and the last return. -/
def SameLive (s t : State) : Prop :=
  s.crcTable = t.crcTable ∧ s.magic = t.magic ∧ s.cfg = t.cfg ∧ s.faultG = t.faultG ∧
  List.Forall₂ Inst.SameLive s.insts t.insts

end Sys2Proof.Machine
end

