-- ==== Sys2Proof/Certificates/Slice0/Obligations.lean ====
section
/-!
DEFINITION. The statements for the provers. Each says which rule of spec/ it formalises; a clause that
rests on a choice of the model names its log entry.
-/

open Sys2Proof Sys2Proof.Machine

/-! ## The step, the decoder, the encoder -/

/-- A step runs the oldest operation the caller has issued, with that operation taken off the list and
nothing else changed; where it is PARSE of a payload that decodes to the command `i`, the step is `i` at
that state; with nothing issued a step changes nothing (entry 14) (R5, R60, R77, R160, R235; the list of issued
operations is the model's own, entries 6 and 15). -/
def Obligations.StepRunsTheDecodedInstruction : Prop :=
  (∀ (s : State) (i : Instr) (rest : List Instr), s.pending = i :: rest →
    step s = exec i { s with pending := rest }) ∧
  (∀ (s : State) (k : Nat) (p : Bytes) (rest : List Instr) (i : Instr),
    s.pending = .parse k p :: rest → decodePayload s.cfg.opcodeMap k p = i →
    step s = exec i { s with pending := rest }) ∧
  (∀ s : State, s.pending = [] → step s = .next s)

/-- Payload words written out from R78, R80 and R82 decode to the commands they stand for. -/
def Obligations.PayloadWordsDecodeAsTabled : Prop :=
  decodePayload OpcodeMap.default 3 [0x00] = .echo 3 ∧
  decodePayload OpcodeMap.default 3 [0x02, 0x07] = .testMode 3 (.byte 0x07) ∧
  decodePayload OpcodeMap.default 3 [0x0D, 0x01] = .ledRed 3 (.byte 0x01) ∧
  decodePayload OpcodeMap.default 3 [0x0C, 0x02, 0x00, 0x05, 0x00, 0x64, 0x03, 0xE8] =
    .buzzer 3 (.pulse 5 100 1000) ∧
  decodePayload OpcodeMap.default 3 [0x03, 0xAA, 0x78, 0x56, 0x34, 0x12] =
    .setTime 3 (.time 0xAA 0x12345678) ∧
  decodePayload OpcodeMap.default 3 [0x04] = .txd 3 ∧
  decodePayload OpcodeMap.default 3 [0xFF] = .unknown 3 0xFF ∧
  decodePayload OpcodeMap.default 3 [] = .emptyPayload 3

/-- Under every well-formed configuration, decoding the payload of a well-formed command gives the
command back, every operand at every value (R78, R81, R86). -/
def Obligations.DecodeOfEncodeIsTheCommand : Prop :=
  ∀ (c : Config) (i : Instr) (k : Nat) (p : Bytes), c.wf = true → i.wf c = true →
    i.names = some k → encode c.opcodeMap i = some p → decodePayload c.opcodeMap k p = i

/-! ## CRC8 unit -/

/-- R102 lists the table R101 generates, and it is a permutation of all bytes. -/
def Obligations.CrcTableIsTheGeneratedPermutation : Prop :=
  crcTableRom = (List.range 256).map (fun i => crcShift8 (BitVec.ofNat 8 i)) ∧
  crcTableRom.length = 256 ∧ crcTableRom.Nodup

/-- R103, R104: CRC8_COMPUTE answers the fold of the table from seed 0 and writes nothing. -/
def Obligations.CrcComputeAnswersTheFold : Prop :=
  ∀ (s : State) (b : Bytes), s.cfg.wf = true →
    exec (.crc8Compute b) s = .next { s with
      response := some (.ret .ok (.crc
        (b.foldl (fun crc x => s.crcTable.getD (crc ^^^ x).toNat 0) 0))) }

/-- R105, R217: CRC8_VERIFY compares the checksum with the expected byte; a difference is the result
state CHECKSUM_MISMATCH; nothing is written. -/
def Obligations.CrcVerifyComparesChecksum : Prop :=
  ∀ (s : State) (b : Bytes) (e : Byte), s.cfg.wf = true →
    (crc8 s.crcTable b = e → exec (.crc8Verify b e) s = .next { s with
      response := some (.ret .ok (.verified true)) }) ∧
    (crc8 s.crcTable b ≠ e → exec (.crc8Verify b e) s = .next { s with
      response := some (.ret .checksumMismatch (.verified false)) })

/-- R106: the fold over the table of R102 is the table-free shift loop, for every sequence. -/
def Obligations.TableFoldEqualsShiftLoop : Prop :=
  ∀ b : Bytes, crc8 crcTableRom b = crc8Bitwise b

/-- R104's corner cases: the empty sequence has checksum 0; leading zero bytes do not count; a sequence
followed by its own checksum has checksum 0; changing exactly one byte, to any other value, changes the
checksum. The spec infers them for the table of R102, its general knowledge (entry 16). -/
def Obligations.ChecksumCornerCases : Prop :=
  crc8 crcTableRom [] = 0 ∧
  (∀ (n : Nat) (b : Bytes), crc8 crcTableRom (List.replicate n 0 ++ b) = crc8 crcTableRom b) ∧
  (∀ b : Bytes, crc8 crcTableRom (b ++ [crc8 crcTableRom b]) = 0) ∧
  (∀ (b : Bytes) (j : Nat) (v : Byte), j < b.length → b[j]? ≠ some v →
    crc8 crcTableRom (b.set j v) ≠ crc8 crcTableRom b)

/-! ## Frame codec -/

/-- R72, R73, R74, R120: for a payload of at most 253 bytes FRAME_ENCODE answers MAGIC, LENGTH = N + 2,
the payload and the checksum of all bytes before, and writes nothing. -/
def Obligations.FrameEncodeBuildsTheFrame : Prop :=
  ∀ (s : State) (p : Bytes), s.cfg.wf = true → s.magic = magicRom → p.length ≤ 253 →
    exec (.frameEncode p) s = .next { s with
      response := some (.ret .ok (.bytes
        (0x23 :: 0x40 :: 0x21 :: BitVec.ofNat 8 (p.length + 2) :: p ++
          [crc8 s.crcTable (0x23 :: 0x40 :: 0x21 :: BitVec.ofNat 8 (p.length + 2) :: p)]))) }

/-- R122, R220, R221, R32: a longer payload faults with 0x10 and its length; FAULT_G takes the cause if
it held none, and no other register changes. A fault as a next state is the model's deduction (entry 9). -/
def Obligations.FrameEncodeFaultsOnLongPayload : Prop :=
  ∀ (s : State) (p : Bytes), s.cfg.wf = true → 253 < p.length →
    exec (.frameEncode p) s = .next { s with
      faultG := if s.faultG.valid then s.faultG else ⟨true, 0x10⟩
      response := some (.faulted .payloadTooLong p.length) }

/-- R124, R126: for at least 5 bytes FRAME_STRIP answers the bytes from offset 4 up to the last but one,
whatever they are, and writes nothing. -/
def Obligations.FrameStripAnswersTheSlice : Prop :=
  ∀ (s : State) (h0 h1 h2 h3 c : Byte) (p : Bytes), s.cfg.wf = true →
    exec (.frameStrip (h0 :: h1 :: h2 :: h3 :: p ++ [c])) s = .next { s with
      response := some (.ret .ok (.bytes p)) }

/-- R125, R220, R221, R32: fewer than 5 bytes fault with 0x11 and the length; FAULT_G takes the cause if
it held none, and no other register changes. A fault as a next state is the model's deduction (entry 9). -/
def Obligations.FrameStripFaultsOnShortInput : Prop :=
  ∀ (s : State) (f : Bytes), s.cfg.wf = true → f.length < 5 →
    exec (.frameStrip f) s = .next { s with
      faultG := if s.faultG.valid then s.faultG else ⟨true, 0x11⟩
      response := some (.faulted .stripShort f.length) }

/-- R127, R128, R129: FRAME_VALIDATE of the empty sequence, and of a sequence whose last byte `c` is or
is not the checksum of the bytes `b` before it; it writes nothing. -/
def Obligations.FrameValidateChecksTheLastByte : Prop :=
  ∀ s : State, s.cfg.wf = true →
    (exec (.frameValidate []) s = .next { s with
      response := some (.ret .noFrame (.validated false false)) }) ∧
    (∀ b : Bytes, exec (.frameValidate (b ++ [crc8 s.crcTable b])) s = .next { s with
      response := some (.ret .ok (.validated true false)) }) ∧
    (∀ (b : Bytes) (c : Byte), c ≠ crc8 s.crcTable b →
      exec (.frameValidate (b ++ [c])) s = .next { s with
        response := some (.ret .checksumMismatch (.validated false true)) })

/-- R127's corner case: a non-empty sequence validates exactly if its whole checksum is 0. The spec
infers it for the table of R102, its general knowledge (entry 16). -/
def Obligations.ValidIffWholeChecksumZero : Prop :=
  ∀ (s : State) (f : Bytes), s.cfg.wf = true → s.crcTable = crcTableRom → f ≠ [] →
    (exec (.frameValidate f) s = .next { s with
        response := some (.ret .ok (.validated true false)) } ↔
      crc8 crcTableRom f = 0)

/-- R123: for every payload of at most 253 bytes, the frame FRAME_ENCODE answers strips back to the
payload and validates. -/
def Obligations.EncodedFrameStripsAndValidates : Prop :=
  ∀ (s : State) (p : Bytes), s.cfg.wf = true → s.magic = magicRom → p.length ≤ 253 →
    ∃ f, exec (.frameEncode p) s = .next { s with response := some (.ret .ok (.bytes f)) } ∧
      exec (.frameStrip f) s = .next { s with response := some (.ret .ok (.bytes p)) } ∧
      exec (.frameValidate f) s = .next { s with
        response := some (.ret .ok (.validated true false)) }

/-- R130: changing exactly one byte of a sequence that validates, its last byte included, makes
FRAME_VALIDATE answer false with a mismatch report. The spec infers it from R104 and R127, for the table
of R102, which it takes from general knowledge (entry 16); the report is its decision D13. -/
def Obligations.OneCorruptedByteIsDetected : Prop :=
  ∀ (s : State) (f : Bytes) (j : Nat) (v : Byte), s.cfg.wf = true → s.crcTable = crcTableRom →
    exec (.frameValidate f) s = .next { s with
      response := some (.ret .ok (.validated true false)) } →
    j < f.length → f[j]? ≠ some v →
    exec (.frameValidate (f.set j v)) s = .next { s with
      response := some (.ret .checksumMismatch (.validated false true)) }

/-- R134 to R142: FRAME_SCAN always completes and writes nothing; it answers FOUND(o, n) exactly if the n
bytes from offset o are a frame and no lower offset begins one, and NO_FRAME exactly if no offset does
(the spec's decisions D8 to D11). -/
def Obligations.ScanFindsTheLowestFrame : Prop :=
  ∀ (s : State) (buf : Bytes), s.cfg.wf = true → s.magic = magicRom →
    ((∃ o n, exec (.frameScan buf) s = .next { s with
        response := some (.ret .ok (.found o n)) }) ∨
      exec (.frameScan buf) s = .next { s with response := some (.ret .noFrame .noFrame) }) ∧
    (∀ o n, exec (.frameScan buf) s = .next { s with
        response := some (.ret .ok (.found o n)) } ↔
      FrameAt s.crcTable s.magic buf o n ∧
        ∀ o' n', o' < o → ¬ FrameAt s.crcTable s.magic buf o' n') ∧
    (exec (.frameScan buf) s = .next { s with response := some (.ret .noFrame .noFrame) } ↔
      ∀ o n, ¬ FrameAt s.crcTable s.magic buf o n)

/-- R143: a frame with a garbage prefix and suffix is found, unless an offset inside the prefix itself
begins a frame. The spec infers it from R134, R140 and R141, and its decisions D8 to D11 say what length
is answered and where the scan resumes. -/
def Obligations.EmbeddedFrameIsFound : Prop :=
  ∀ (s : State) (g p f x : Bytes), s.cfg.wf = true → s.magic = magicRom → p.length ≤ 253 →
    exec (.frameEncode p) s = .next { s with response := some (.ret .ok (.bytes f)) } →
    (∀ o n, o < g.length → ¬ FrameAt s.crcTable s.magic (g ++ f ++ x) o n) →
    exec (.frameScan (g ++ f ++ x)) s = .next { s with
      response := some (.ret .ok (.found g.length (p.length + 5))) }

/-- R246: what FRAME_SCAN found has at least 5 bytes, validates, and strips without a fault. -/
def Obligations.FoundFrameStripsWithoutFault : Prop :=
  ∀ (s : State) (buf : Bytes) (o n : Nat), s.cfg.wf = true →
    exec (.frameScan buf) s = .next { s with response := some (.ret .ok (.found o n)) } →
    (slice buf o (o + n)).length = n ∧ 5 ≤ n ∧
    exec (.frameValidate (slice buf o (o + n))) s = .next { s with
      response := some (.ret .ok (.validated true false)) } ∧
    exec (.frameStrip (slice buf o (o + n))) s = .next { s with
      response := some (.ret .ok (.bytes (slice buf (o + 4) (o + n - 1)))) }

/-! ## Commands and PARSE -/

/-- R165: ECHO sets ECHO_EN and nothing else, and answers OK with the new record. -/
def Obligations.EchoSetsEchoEnable : Prop :=
  ∀ (s : State) (k : Nat) (x : Inst), s.cfg.wf = true → s.live? k = some x →
    exec (.echo k) s = .next { s with
      insts := s.insts.set k { x with mode := { x.mode with echoEn := true } }
      response := some (.ret .ok (.mode { x.mode with echoEn := true })) }

/-- R166, R172: ACK, the ten unhandled opcodes and every opcode without a name change no register and
answer OK with the record. -/
def Obligations.NoEffectCommandsChangeNothing : Prop :=
  ∀ (s : State) (k : Nat) (x : Inst) (op : Byte), s.cfg.wf = true → s.live? k = some x →
    ∀ i ∈ [Instr.ack k, .txd k, .rxd k, .output k, .requestToExit k, .doorControl k, .relay k,
        .tamper k, .button k, .ledBlue k, .wifiCredentials k, .unknown k op],
      exec i s = .next { s with response := some (.ret .ok (.mode x.mode)) }

/-- R167, R168, R169: TEST_MODE, LED_RED and LED_GREEN store their argument byte, every value as given,
and write nothing else; without an argument byte they answer DECODE_FAILURE and write nothing. -/
def Obligations.ByteCommandsStoreTheirArgument : Prop :=
  ∀ (s : State) (k : Nat) (x : Inst), s.cfg.wf = true → s.live? k = some x →
    (∀ v : Byte,
      exec (.testMode k (.byte v)) s = .next { s with
        insts := s.insts.set k { x with mode := { x.mode with testLevel := v } }
        response := some (.ret .ok (.mode { x.mode with testLevel := v })) } ∧
      exec (.ledRed k (.byte v)) s = .next { s with
        insts := s.insts.set k { x with mode := { x.mode with ledRed := v } }
        response := some (.ret .ok (.mode { x.mode with ledRed := v })) } ∧
      exec (.ledGreen k (.byte v)) s = .next { s with
        insts := s.insts.set k { x with mode := { x.mode with ledGreen := v } }
        response := some (.ret .ok (.mode { x.mode with ledGreen := v })) }) ∧
    ∀ i ∈ [Instr.testMode k .missing, .ledRed k .missing, .ledGreen k .missing],
      exec i s = .next { s with response := some (.ret .decodeFailure (.mode x.mode)) }

/-- R170: a non-pulsing BUZZER stores its state and keeps the three pulse fields (the spec's decision
D19); a pulsing one writes all four; with an argument missing, in either state, it answers
DECODE_FAILURE and writes nothing. -/
def Obligations.BuzzerStoresStateAndPulse : Prop :=
  ∀ (s : State) (k : Nat) (x : Inst), s.cfg.wf = true → s.live? k = some x →
    (∀ v : Byte, v ≠ 0x02 → exec (.buzzer k (.state v)) s = .next { s with
      insts := s.insts.set k { x with mode := { x.mode with buzState := v } }
      response := some (.ret .ok (.mode { x.mode with buzState := v })) }) ∧
    (∀ c i d : BitVec 16, exec (.buzzer k (.pulse c i d)) s = .next { s with
      insts := s.insts.set k { x with mode := { x.mode with
        buzState := 0x02, buzCount := c, buzInterval := i, buzDuration := d } }
      response := some (.ret .ok (.mode { x.mode with
        buzState := 0x02, buzCount := c, buzInterval := i, buzDuration := d })) }) ∧
    ∀ i ∈ [Instr.buzzer k .missing, .buzzer k .pulseMissing],
      exec i s = .next { s with response := some (.ret .decodeFailure (.mode x.mode)) }

/-- R171, R83: SET_TIME stores the time and nothing else, whatever the reserved byte is; with a byte
missing it answers DECODE_FAILURE and writes nothing. -/
def Obligations.SetTimeStoresTheClock : Prop :=
  ∀ (s : State) (k : Nat) (x : Inst), s.cfg.wf = true → s.live? k = some x →
    (∀ (reserved : Byte) (t : BitVec 32), exec (.setTime k (.time reserved t)) s = .next { s with
      insts := s.insts.set k { x with mode := { x.mode with clock := t } }
      response := some (.ret .ok (.mode { x.mode with clock := t })) }) ∧
    exec (.setTime k .missing) s = .next { s with
      response := some (.ret .decodeFailure (.mode x.mode)) }

/-- R173, R175, R78: PARSE of a payload shorter than its command's min len, and of the empty payload,
answers DECODE_FAILURE with the record as it was and writes no register (the spec's decisions D16 and
D17); the command EMPTY_PAYLOAD is the latter. -/
def Obligations.ShortPayloadIsADecodeFailure : Prop :=
  ∀ (s : State) (k : Nat) (x : Inst), s.cfg.wf = true → s.live? k = some x →
    (∀ (op : Byte) (args : Bytes),
      ((op = s.cfg.opcodeMap.testMode ∨ op = s.cfg.opcodeMap.ledRed ∨
          op = s.cfg.opcodeMap.ledGreen ∨ op = s.cfg.opcodeMap.buzzer) ∧ args.length + 1 < 2 ∨
        op = s.cfg.opcodeMap.buzzer ∧ args.head? = some 0x02 ∧ args.length + 1 < 8 ∨
        op = s.cfg.opcodeMap.setTime ∧ args.length + 1 < 6) →
      exec (.parse k (op :: args)) s = .next { s with
        response := some (.ret .decodeFailure (.mode x.mode)) }) ∧
    exec (.parse k []) s = .next { s with
      response := some (.ret .decodeFailure (.mode x.mode)) } ∧
    exec (.emptyPayload k) s = .next { s with
      response := some (.ret .decodeFailure (.mode x.mode)) }

/-- R160, R161: PARSE of a payload is the command the payload decodes to, in every state. -/
def Obligations.ParseIsTheDecodedCommand : Prop :=
  ∀ (s : State) (k : Nat) (p : Bytes),
    exec (.parse k p) s = exec (decodePayload s.cfg.opcodeMap k p) s

/-- R160, R162, R215: PARSE on a live instance always completes; it answers OK and writes MODE[k] alone,
or DECODE_FAILURE and writes nothing; the record it answers is MODE[k] after. -/
def Obligations.ParseCompletesOnLiveInstance : Prop :=
  ∀ (s : State) (k : Nat) (p : Bytes) (x : Inst), s.cfg.wf = true → s.live? k = some x →
    (∃ m : Mode, exec (.parse k p) s = .next { s with
        insts := s.insts.set k { x with mode := m }
        response := some (.ret .ok (.mode m)) }) ∨
    exec (.parse k p) s = .next { s with
        response := some (.ret .decodeFailure (.mode x.mode)) }

/-- R54, R79, R170: PARSE of a pulsing BUZZER payload reads its three fields most significant byte
first. -/
def Obligations.PulsingBuzzerIsBigEndian : Prop :=
  ∀ (s : State) (k : Nat) (x : Inst) (c1 c0 i1 i0 d1 d0 : Byte) (more : Bytes),
    s.cfg.wf = true → s.live? k = some x →
    ∃ m : Mode,
      exec (.parse k (s.cfg.opcodeMap.buzzer :: 0x02 :: c1 :: c0 :: i1 :: i0 :: d1 :: d0 :: more)) s =
        .next { s with
          insts := s.insts.set k { x with mode := m }
          response := some (.ret .ok (.mode m)) } ∧
      m.buzState = 0x02 ∧ m.buzCount.toNat = c1.toNat * 256 + c0.toNat ∧
      m.buzInterval.toNat = i1.toNat * 256 + i0.toNat ∧
      m.buzDuration.toNat = d1.toNat * 256 + d0.toNat ∧
      m.echoEn = x.mode.echoEn ∧ m.testLevel = x.mode.testLevel ∧ m.ledRed = x.mode.ledRed ∧
      m.ledGreen = x.mode.ledGreen ∧ m.clock = x.mode.clock

/-- R54, R79, R171: PARSE of a SET_TIME payload reads the time least significant byte first, and does not
depend on the reserved byte. -/
def Obligations.SetTimeIsLittleEndian : Prop :=
  ∀ (s : State) (k : Nat) (x : Inst) (r t0 t1 t2 t3 : Byte) (more : Bytes),
    s.cfg.wf = true → s.live? k = some x →
    ∃ t : BitVec 32,
      t.toNat = t0.toNat + 256 * t1.toNat + 65536 * t2.toNat + 16777216 * t3.toNat ∧
      exec (.parse k (s.cfg.opcodeMap.setTime :: r :: t0 :: t1 :: t2 :: t3 :: more)) s =
        .next { s with
          insts := s.insts.set k { x with mode := { x.mode with clock := t } }
          response := some (.ret .ok (.mode { x.mode with clock := t })) }

/-- R174: bytes after the last one a command reads are ignored: if PARSE of a payload answers OK, PARSE of
any longer payload that begins with it does the same. -/
def Obligations.ExtraPayloadBytesAreIgnored : Prop :=
  ∀ (s t : State) (k : Nat) (p more : Bytes) (m : Mode), s.cfg.wf = true →
    exec (.parse k p) s = .next t → t.response = some (.ret .ok (.mode m)) →
    exec (.parse k (p ++ more)) s = .next t

/-- R177: issuing the same payload twice leaves every register as after the first,
and the model's own mark and last return too (entries 7 and 8). -/
def Obligations.ParseTwiceIsParseOnce : Prop :=
  ∀ (s t : State) (k : Nat) (p : Bytes), exec (.parse k p) s = .next t →
    exec (.parse k p) t = .next t

/-! ## Acknowledgements and register access -/

/-- R200, R72: BUILD_ACK answers MAGIC, LENGTH = STATE_SIZE + 3, the opcode, the serialized Device State
and the checksum, in STATE_SIZE + 6 bytes, for any opcode byte; it writes nothing. -/
def Obligations.BuildAckFramesTheDeviceState : Prop :=
  ∀ (s : State) (k : Nat) (x : Inst) (op : Byte), s.cfg.wf = true → s.live? k = some x →
    s.magic = magicRom →
    ∃ h : Bytes, h = 0x23 :: 0x40 :: 0x21 :: BitVec.ofNat 8 (x.dev.serialize.length + 3) :: op ::
        x.dev.serialize ∧
      exec (.buildAck k op) s = .next { s with
        response := some (.ret .ok (.bytes (h ++ [crc8 s.crcTable h]))) } ∧
      (h ++ [crc8 s.crcTable h]).length = x.dev.serialize.length + 6

/-- R203, R202: on a live instance BUILD_ACK is FRAME_ENCODE of the opcode and the serialized Device
State, so it never faults and its frame validates and strips to them. -/
def Obligations.BuildAckIsFrameEncode : Prop :=
  ∀ (s : State) (k : Nat) (x : Inst) (op : Byte), s.cfg.wf = true → s.Inv →
    s.live? k = some x →
    exec (.buildAck k op) s = exec (.frameEncode (op :: x.dev.serialize)) s ∧
    ∃ f, exec (.buildAck k op) s = .next { s with response := some (.ret .ok (.bytes f)) } ∧
      exec (.frameValidate f) s = .next { s with
        response := some (.ret .ok (.validated true false)) } ∧
      exec (.frameStrip f) s = .next { s with
        response := some (.ret .ok (.bytes (op :: x.dev.serialize))) }

/-- R201, R29, R202: fields are serialized in order, each least significant byte first in its width; a
record of a revision takes STATE_SIZE bytes, at most 252; the zero record is that many zero bytes. The
record as a list of fields is the model's (entry 4). -/
def Obligations.DeviceStateSerialization : Prop :=
  (∀ (v : Nat) (f : DevField) (fs : List DevField),
    (⟨v, []⟩ : DevRecord).serialize = [] ∧
    (⟨v, f :: fs⟩ : DevRecord).serialize = f.serialize ++ (⟨v, fs⟩ : DevRecord).serialize) ∧
  (∀ a : BitVec 8, (DevField.f8 a).serialize.map BitVec.toNat = [a.toNat]) ∧
  (∀ a : BitVec 16, (DevField.f16 a).serialize.map BitVec.toNat =
    [a.toNat % 256, a.toNat / 256]) ∧
  (∀ a : BitVec 32, (DevField.f32 a).serialize.map BitVec.toNat =
    [a.toNat % 256, a.toNat / 256 % 256, a.toNat / 65536 % 256, a.toNat / 16777216]) ∧
  (∀ (c : Config) (v : Nat) (l : List FieldWidth), c.wf = true → c.variants[v]? = some l →
    stateSize l ≤ 252 ∧ (zeroRecord c v).isOf c v = true ∧
    (zeroRecord c v).serialize = List.replicate (stateSize l) 0 ∧
    ∀ r : DevRecord, r.isOf c v = true → r.serialize.length = stateSize l)

/-- R210, R212: MODE_READ and FAULT_READ answer the register as it stands and write nothing; reading a
fault register does not clear it. -/
def Obligations.ReadsAnswerTheRegister : Prop :=
  ∀ s : State, s.cfg.wf = true →
    exec (.faultRead .global) s = .next { s with
      response := some (.ret .ok (.faultReg s.faultG)) } ∧
    ∀ (k : Nat) (x : Inst), s.live? k = some x →
      exec (.modeRead k) s = .next { s with response := some (.ret .ok (.mode x.mode)) } ∧
      exec (.faultRead (.ofInst k)) s = .next { s with
        response := some (.ret .ok (.faultReg x.fault)) }

/-- R211, R224: DEVSTATE_LOAD of a record of the instance's revision writes the whole record and nothing
else; any other record is refused WRONG_VARIANT with no effect but the mark (entries 8 and 12). -/
def Obligations.DevstateLoadWritesTheRecord : Prop :=
  ∀ (s : State) (k : Nat) (x : Inst) (r : DevRecord), s.cfg.wf = true → s.live? k = some x →
    (r.isOf s.cfg x.variant = true → exec (.devstateLoad k r) s = .next { s with
      insts := s.insts.set k { x with dev := r }
      response := some (.ret .ok .nothing) }) ∧
    (r.isOf s.cfg x.variant = false → exec (.devstateLoad k r) s = .next { s with
      refused := s.refused.or (some .wrongVariant)
      response := some (.refusedOp .wrongVariant) })

/-! ## Power-on, connection, teardown -/

/-- R38, R241: what power-on leaves under every configuration; CRC8 works from then on. The reset state
is the power-on under the default configuration (entries 1, 2, 3). -/
def Obligations.PowerOnState : Prop :=
  State.reset = State.powerOn defaultConfig ∧
  ∀ c : Config,
    (State.powerOn c).crcTable = crcTableRom ∧ (State.powerOn c).magic = [0x23, 0x40, 0x21] ∧
    (State.powerOn c).faultG = ⟨false, 0x00⟩ ∧ (∀ k, (State.powerOn c).live? k = none) ∧
    (State.powerOn c).insts.length = c.nInstances ∧ (State.powerOn c).refused = none

/-- R240: CONNECT of an instance, live or not, writes its five registers and nothing else. -/
def Obligations.ConnectResetsTheInstance : Prop :=
  ∀ (s : State) (k v : Nat), s.cfg.wf = true → k < s.cfg.nInstances →
    v < s.cfg.variants.length →
    exec (.connect k v) s = .next { s with
      insts := s.insts.set k ⟨true, v, ⟨false, 0, 0, 0, 0, 0, 0, 0, 0⟩, zeroRecord s.cfg v, ⟨false, 0x00⟩⟩
      response := some (.ret .ok .nothing) }

/-- Entry 11, the model's choice: CONNECT of an instance number R240 does not admit, or of a revision the
configuration does not hold, stops by name. -/
def Obligations.ConnectOutOfRangeStops : Prop :=
  ∀ (s : State) (k v : Nat), s.cfg.wf = true →
    (s.cfg.nInstances ≤ k → exec (.connect k v) s = .refused .noSuchInstance) ∧
    (k < s.cfg.nInstances → s.cfg.variants.length ≤ v →
      exec (.connect k v) s = .refused .noSuchRevision)

/-- R242, R33: DISCONNECT of a live instance clears LIVE[k] and nothing else, after which the instance is
not live; of one that is not live it changes nothing (the spec's decision D30; entry 10). R242 and R38 give
MODE, DEVSTATE, FAULT and PROTO_VARIANT of the instance no value from then on: that they keep their bits is
the model's choice (entry 5). -/
def Obligations.DisconnectClearsLive : Prop :=
  ∀ (s : State) (k : Nat), s.cfg.wf = true →
    (∀ x, s.live? k = some x → ∃ t, exec (.disconnect k) s = .next t ∧
      t = { s with
        insts := s.insts.set k { x with live := false }
        response := some (.ret .ok .nothing) } ∧ t.live? k = none) ∧
    (s.live? k = none → exec (.disconnect k) s = .next { s with
      response := some (.ret .ok .nothing) })

/-! ## Outcomes -/

/-- R224, R225, R33: an operation other than CONNECT and DISCONNECT that names an instance which is not
live is refused NOT_LIVE, whatever its other operands; nothing changes but the mark (entry 8; for
numbers at or above N_INSTANCES entry 10). -/
def Obligations.NotLiveIsRefused : Prop :=
  ∀ (s : State) (i : Instr) (k : Nat), s.cfg.wf = true → i.names = some k →
    s.live? k = none → (∀ v, i ≠ .connect k v) → i ≠ .disconnect k →
    exec i s = .next { s with
      refused := s.refused.or (some .notLive)
      response := some (.refusedOp .notLive) }

/-- R224, R225: a configuration that is not well-formed runs nothing: every instruction is refused
ILL_FORMED_CONFIG, with no effect but the mark (entry 8). -/
def Obligations.IllFormedConfigRunsNothing : Prop :=
  ∀ (s : State) (i : Instr), s.cfg.wf = false →
    exec i s = .next { s with
      refused := s.refused.or (some .illFormedConfig)
      response := some (.refusedOp .illFormedConfig) }

/-- R215: every well-formed instruction completes in every state, with a return to its caller. That this is
so of an operation that faults (R220) or is refused (R224) is the model's deduction (entries 9 and 8); the
operands of CONNECT on which the model stops are not well-formed (entry 11). -/
def Obligations.EveryInstructionCompletes : Prop :=
  ∀ (s : State) (i : Instr), i.wf s.cfg = true →
    ∃ (t : State) (r : Response), exec i s = .next t ∧ t.response = some r

/-- R220, R224, R227: a step never makes a faulted or refused run successful again, and keeps the first
refusal's mark. That a faulting and a refused operation answers a next state from which the run goes on
(entries 9 and 8), and that the mark keeps the first refusal's name (entry 8), are the model's deductions. -/
def Obligations.MarksOfARunAreKept : Prop :=
  ∀ s t : State, step s = .next t →
    (s.faultedRun = true → t.faultG = s.faultG) ∧
    (∀ r, s.refused = some r → t.refused = some r) ∧
    (t.successful = true → s.successful = true)

/-! ## The whole machine -/

/-- The invariant holds at reset (R38). No instance is live there and R38 gives FAULT[k] no value: that it is
clear is the model's choice (entry 5). -/
def Obligations.InvariantHoldsAtReset : Prop := State.reset.Inv

/-- The invariant, and the configuration, are kept by every step from every state that meets it (R20, R21,
R22, R29, R31, R32, R221). R38 and R242 give FAULT[k] no value while instance k is not live: that it is clear
there too is the model's choice (entry 5). -/
def Obligations.InvariantKeptByEveryStep : Prop :=
  ∀ s t : State, s.Inv → step s = .next t → t.Inv ∧ t.cfg = s.cfg

/-- R21, R22, R8, R20: no operation writes CRC_TABLE, MAGIC or the configuration, or makes or removes a
register set. The list of issued operations is the model's own, and that no instruction writes it is the
model's choice (entry 6). -/
def Obligations.ReadOnlyStateIsNeverWritten : Prop :=
  ∀ (s t : State) (i : Instr), exec i s = .next t →
    t.crcTable = s.crcTable ∧ t.magic = s.magic ∧ t.cfg = s.cfg ∧ t.pending = s.pending ∧
    t.insts.length = s.insts.length

/-- R32, R221: FAULT_G changes only from clear, and only by FRAME_ENCODE of more than 253 bytes or
FRAME_STRIP of fewer than 5, to the code of that fault. -/
def Obligations.OnlyTheTwoFaultsWriteFaultG : Prop :=
  ∀ (s t : State) (i : Instr), exec i s = .next t → t.faultG ≠ s.faultG →
    s.faultG.valid = false ∧
    ((∃ p, i = .frameEncode p ∧ 253 < p.length ∧ t.faultG = ⟨true, 0x10⟩) ∨
     (∃ f, i = .frameStrip f ∧ f.length < 5 ∧ t.faultG = ⟨true, 0x11⟩))

/-- R27: MODE[k] is written only by CONNECT of k, PARSE on k and the handled commands PARSE dispatches to
on k. That DISCONNECT of k keeps its bits is the model's choice (entry 5). -/
def Obligations.OnlyParseAndConnectWriteMode : Prop :=
  ∀ (s t : State) (i : Instr) (k : Nat) (x y : Inst), exec i s = .next t →
    s.insts[k]? = some x → t.insts[k]? = some y → y.mode ≠ x.mode →
    (∃ v, i = .connect k v) ∨ (∃ p, i = .parse k p) ∨ i = .echo k ∨ (∃ a, i = .testMode k a) ∨
    (∃ a, i = .ledRed k a) ∨ (∃ a, i = .ledGreen k a) ∨ (∃ a, i = .buzzer k a) ∨
    (∃ a, i = .setTime k a)

/-- R27: once ECHO_EN is set, no instruction but CONNECT of the instance clears it. Over DISCONNECT and while
the instance is not live R38 and R242 give MODE no value, and the claim is the model's choice there
(entry 5). -/
def Obligations.EchoEnableStaysUntilConnect : Prop :=
  ∀ (s t : State) (i : Instr) (k : Nat) (x : Inst), exec i s = .next t →
    s.insts[k]? = some x → x.mode.echoEn = true → (∀ v, i ≠ .connect k v) →
    ∃ y, t.insts[k]? = some y ∧ y.mode.echoEn = true

/-- R28: CLOCK changes only by SET_TIME, alone or as the payload of PARSE, and by CONNECT. That
DISCONNECT keeps its bits is the model's choice (entry 5). -/
def Obligations.ClockChangesOnlyBySetTime : Prop :=
  ∀ (s t : State) (i : Instr) (k : Nat) (x y : Inst), exec i s = .next t →
    s.insts[k]? = some x → t.insts[k]? = some y → y.mode.clock ≠ x.mode.clock →
    (∃ v, i = .connect k v) ∨ (∃ a, i = .setTime k a) ∨
    (∃ p a, i = .parse k p ∧ decodePayload s.cfg.opcodeMap k p = .setTime k a)

/-- R30, R31, R32: DEVSTATE[k] is written only by CONNECT and DEVSTATE_LOAD of k; PROTO_VARIANT[k] and
FAULT[k] only by CONNECT of k; LIVE[k] only by CONNECT and DISCONNECT of k. That DISCONNECT of k
keeps the bits of the others is the model's choice (entry 5). -/
def Obligations.WritersOfTheOtherRegisters : Prop :=
  ∀ (s t : State) (i : Instr) (k : Nat) (x y : Inst), exec i s = .next t →
    s.insts[k]? = some x → t.insts[k]? = some y →
    (y.dev ≠ x.dev → (∃ v, i = .connect k v) ∨ ∃ r, i = .devstateLoad k r) ∧
    (y.variant ≠ x.variant → ∃ v, i = .connect k v) ∧
    (y.fault ≠ x.fault → ∃ v, i = .connect k v) ∧
    (y.live ≠ x.live → (∃ v, i = .connect k v) ∨ i = .disconnect k)

/-- R37: an operation writes no register of an instance it does not name, and what an operation on
instance k answers and leaves in k's registers depends on no other instance's registers (nor on
FAULT_G). -/
def Obligations.InstancesAreIsolated : Prop :=
  (∀ (s t : State) (i : Instr) (k : Nat), exec i s = .next t → i.names ≠ some k →
    t.insts[k]? = s.insts[k]?) ∧
  (∀ (s t s' : State) (i : Instr) (k : Nat), i.names = some k → AgreeOn k s t →
    exec i s = .next s' →
    ∃ t', exec i t = .next t' ∧ t'.response = s'.response ∧ AgreeOn k s' t')

/-- R62: operations on different instances commute: in either order both complete, each answers the same,
and the same registers are left and the run is marked or not alike; that a refused operation marks the run
and lets the other run on is the model's deduction (entry 8). -/
def Obligations.OperationsOnDifferentInstancesCommute : Prop :=
  ∀ (s a b : State) (i j : Instr) (k l : Nat), i.names = some k → j.names = some l → k ≠ l →
    exec i s = .next a → exec j s = .next b →
    ∃ ab ba, exec j a = .next ab ∧ exec i b = .next ba ∧
      ab.response = b.response ∧ ba.response = a.response ∧
      ab.insts = ba.insts ∧ ab.faultG = ba.faultG ∧ ab.refused.isSome = ba.refused.isSome

/-- R62: an operation that names no instance, but for FAULT_READ of FAULT_G, answers the same in any two
states with the same read-only memories and configuration, and writes no instance's registers. -/
def Obligations.UnnamedOperationsReadOnlyTheRoms : Prop :=
  ∀ (s t s' : State) (i : Instr), i.names = none → i ≠ .faultRead .global →
    s.crcTable = t.crcTable → s.magic = t.magic → s.cfg = t.cfg → exec i s = .next s' →
    s'.insts = s.insts ∧ ∃ t', exec i t = .next t' ∧ t'.response = s'.response

/-- R220, R227, R218: a held fault changes no later operation's answer or effect on an instance; only
FAULT_READ of FAULT_G shows it (faults as next states: entry 9). The same of a mark of refusal is no rule of
the spec but the model's deduction from R224 (entry 8). -/
def Obligations.HeldFaultChangesNoLaterOperation : Prop :=
  ∀ (s t : State) (i : Instr) (g : FaultReg) (m : Option RefusalCause),
    i ≠ .faultRead .global → exec i s = .next t →
    ∃ t', exec i { s with faultG := g, refused := m } = .next t' ∧
      t'.response = t.response ∧ t'.insts = t.insts

/-- R38, R242: what an instance that is not live keeps in its registers reaches no answer and no live
register: states that differ only there stay so under every instruction, with equal answers
(what the registers keep: entry 5; refusals as next states: entry 8). -/
def Obligations.DeadRegistersAreUnreadable : Prop :=
  ∀ (s t s' : State) (i : Instr), SameLive s t → exec i s = .next s' →
    ∃ t', exec i t = .next t' ∧ t'.response = s'.response ∧ SameLive s' t'

/-- R4, R87, R143: the whole path. If `f` is the frame of a well-formed command's payload, RECV on a buffer
that holds it after garbage with no frame in it does exactly what the command does. -/
def Obligations.ReceiveRunsTheSentCommand : Prop :=
  ∀ (s : State) (i : Instr) (k : Nat) (p g f x : Bytes), s.cfg.wf = true → s.magic = magicRom →
    i.wf s.cfg = true → i.names = some k → encode s.cfg.opcodeMap i = some p →
    send s.cfg.opcodeMap i = some (.frameEncode p) →
    exec (.frameEncode p) s = .next { s with response := some (.ret .ok (.bytes f)) } →
    (∀ o n, o < g.length → ¬ FrameAt s.crcTable s.magic (g ++ f ++ x) o n) →
    recv k (g ++ f ++ x) s = exec i s
end

