-- ==== Sys2Proof/Laws/State.lean ====
section
/-!
SUPPORT. One lemma per field per state update, so that no proof unfolds a record update.
-/

namespace Sys2Proof.Machine

variable (s : State) (k : Nat) (x : Inst) (rs : ResultState) (o : Output) (r : RefusalCause)
  (f : FaultCode) (n : Nat)

@[simp] theorem setInst_crcTable : (s.setInst k x).crcTable = s.crcTable := rfl
@[simp] theorem setInst_magic : (s.setInst k x).magic = s.magic := rfl
@[simp] theorem setInst_cfg : (s.setInst k x).cfg = s.cfg := rfl
@[simp] theorem setInst_insts : (s.setInst k x).insts = s.insts.set k x := rfl
@[simp] theorem setInst_faultG : (s.setInst k x).faultG = s.faultG := rfl
@[simp] theorem setInst_refused : (s.setInst k x).refused = s.refused := rfl
@[simp] theorem setInst_pending : (s.setInst k x).pending = s.pending := rfl
@[simp] theorem setInst_response : (s.setInst k x).response = s.response := rfl

@[simp] theorem finish_crcTable : (finish s rs o).crcTable = s.crcTable := rfl
@[simp] theorem finish_magic : (finish s rs o).magic = s.magic := rfl
@[simp] theorem finish_cfg : (finish s rs o).cfg = s.cfg := rfl
@[simp] theorem finish_insts : (finish s rs o).insts = s.insts := rfl
@[simp] theorem finish_faultG : (finish s rs o).faultG = s.faultG := rfl
@[simp] theorem finish_refused : (finish s rs o).refused = s.refused := rfl
@[simp] theorem finish_pending : (finish s rs o).pending = s.pending := rfl
@[simp] theorem finish_response : (finish s rs o).response = some (.ret rs o) := rfl

@[simp] theorem refuse_crcTable : (refuse s r).crcTable = s.crcTable := rfl
@[simp] theorem refuse_magic : (refuse s r).magic = s.magic := rfl
@[simp] theorem refuse_cfg : (refuse s r).cfg = s.cfg := rfl
@[simp] theorem refuse_insts : (refuse s r).insts = s.insts := rfl
@[simp] theorem refuse_faultG : (refuse s r).faultG = s.faultG := rfl
@[simp] theorem refuse_refused : (refuse s r).refused = s.refused.or (some r) := rfl
@[simp] theorem refuse_pending : (refuse s r).pending = s.pending := rfl
@[simp] theorem refuse_response : (refuse s r).response = some (.refusedOp r) := rfl

@[simp] theorem raise_global_crcTable : (raise s .global f n).crcTable = s.crcTable := rfl
@[simp] theorem raise_global_magic : (raise s .global f n).magic = s.magic := rfl
@[simp] theorem raise_global_cfg : (raise s .global f n).cfg = s.cfg := rfl
@[simp] theorem raise_global_insts : (raise s .global f n).insts = s.insts := rfl
@[simp] theorem raise_global_faultG : (raise s .global f n).faultG = s.faultG.record f := rfl
@[simp] theorem raise_global_refused : (raise s .global f n).refused = s.refused := rfl
@[simp] theorem raise_global_pending : (raise s .global f n).pending = s.pending := rfl
@[simp] theorem raise_global_response : (raise s .global f n).response = some (.faulted f n) := rfl

/-- Writing back an instance's own registers changes nothing. -/
theorem setInst_self (h : s.insts[k]? = some x) : s.setInst k x = s := by
  have : s.insts.set k x = s.insts := by
    obtain ⟨hk, rfl⟩ := List.getElem?_eq_some_iff.mp h
    exact List.set_getElem_self hk
  simp [State.setInst, this]

end Sys2Proof.Machine
end

