-- ==== Sys2Proof/Laws/Ops.lean ====
section
/-!
SUPPORT. One lemma per shared operation that says once everything it can do; proofs cite these and do
not unfold the operation.
-/

namespace Sys2Proof.Machine

/-! ## Registers -/

/-- An instance is live exactly if its register set exists and LIVE[k] is 1. -/
theorem live?_eq_some_iff (s : State) (k : Nat) (x : Inst) :
    s.live? k = some x ↔ s.insts[k]? = some x ∧ x.live = true := by
  unfold State.live?
  cases h : s.insts[k]? with
  | none => simp
  | some y => by_cases hy : y.live = true <;> simp [hy] <;> rintro rfl <;> simp_all

theorem live?_eq_none_iff (s : State) (k : Nat) :
    s.live? k = none ↔ ∀ x, s.insts[k]? = some x → x.live = false := by
  unfold State.live?
  cases h : s.insts[k]? with
  | none => simp
  | some y => by_cases hy : y.live = true <;> simp [hy]

/-- `live?` reads nothing but the register sets. -/
theorem live?_congr {s t : State} {k : Nat} (h : s.insts[k]? = t.insts[k]?) :
    s.live? k = t.live? k := by simp [State.live?, h]

/-! ## Endings -/

theorem record_of_valid {r : FaultReg} (f : FaultCode) (h : r.valid = true) : r.record f = r := by
  simp [FaultReg.record, h]

theorem record_of_clear {r : FaultReg} (f : FaultCode) (h : r.valid = false) :
    r.record f = ⟨true, f.code⟩ := by simp [FaultReg.record, h]

/-- A mark that stands is kept. -/
theorem refuse_keeps {s : State} {r : RefusalCause} (h : s.refused = some r) (q : RefusalCause) :
    (refuse s q).refused = some r := by simp [h]

/-! ## Checks -/

theorem onConfig_of_wf {s : State} (h : s.cfg.wf = true)
    (body : Host.Outcome State Fault Refusal) : onConfig s body = body := by simp [onConfig, h]

theorem onConfig_of_not_wf {s : State} (h : s.cfg.wf = false)
    (body : Host.Outcome State Fault Refusal) :
    onConfig s body = .next (refuse s .illFormedConfig) := by simp [onConfig, h]

theorem onLive_of_live {s : State} {k : Nat} {x : Inst} (hc : s.cfg.wf = true)
    (hx : s.live? k = some x) (body : Inst → Host.Outcome State Fault Refusal) :
    onLive s k body = body x := by simp [onLive, onConfig_of_wf hc, hx]

theorem onLive_of_not_live {s : State} {k : Nat} (hc : s.cfg.wf = true) (hx : s.live? k = none)
    (body : Inst → Host.Outcome State Fault Refusal) :
    onLive s k body = .next (refuse s .notLive) := by simp [onLive, onConfig_of_wf hc, hx]

/-- What `onConfig` can answer. -/
theorem onConfig_next {s t : State} {body : Host.Outcome State Fault Refusal}
    (h : onConfig s body = .next t) :
    (s.cfg.wf = false ∧ t = refuse s .illFormedConfig) ∨ (s.cfg.wf = true ∧ body = .next t) := by
  cases hc : s.cfg.wf
  · rw [onConfig_of_not_wf hc] at h
    cases h
    exact .inl ⟨rfl, rfl⟩
  · rw [onConfig_of_wf hc] at h
    exact .inr ⟨rfl, h⟩

/-- What `onLive` can answer. -/
theorem onLive_next {s t : State} {k : Nat} {body : Inst → Host.Outcome State Fault Refusal}
    (h : onLive s k body = .next t) :
    (∃ r, t = refuse s r) ∨ (∃ x, s.cfg.wf = true ∧ s.live? k = some x ∧ body x = .next t) := by
  rcases onConfig_next h with ⟨-, rfl⟩ | ⟨hc, hb⟩
  · exact .inl ⟨_, rfl⟩
  · cases hx : s.live? k with
    | none =>
      simp only [hx] at hb
      cases hb
      exact .inl ⟨_, rfl⟩
    | some x =>
      simp only [hx] at hb
      exact .inr ⟨x, hc, rfl, hb⟩

/-- What a command does on a live instance. -/
theorem command_of_live {s : State} {k : Nat} {x : Inst} (hc : s.cfg.wf = true)
    (hx : s.live? k = some x) (f : Mode → Option Mode) :
    command s k f =
      match f x.mode with
      | some m => .next (finish (s.setInst k { x with mode := m }) .ok (.mode m))
      | none => .next (finish s .decodeFailure (.mode x.mode)) := by
  simp only [command]
  exact onLive_of_live hc hx _

/-- A command that leaves the Mode record as it is changes no register. -/
theorem command_unchanged {s : State} {k : Nat} {x : Inst} (hc : s.cfg.wf = true)
    (hx : s.live? k = some x) :
    command s k some = .next (finish s .ok (.mode x.mode)) := by
  have h := ((live?_eq_some_iff s k x).mp hx).1
  rw [command_of_live hc hx]
  change Host.Outcome.next (finish (s.setInst k x) .ok (.mode x.mode)) = _
  rw [setInst_self s k x h]

/-- Everything a command can do. -/
theorem command_next {s t : State} {k : Nat} {f : Mode → Option Mode}
    (h : command s k f = .next t) :
    (∃ r, t = refuse s r) ∨
    (∃ x, s.live? k = some x ∧
      ((∃ m, f x.mode = some m ∧
          t = finish (s.setInst k { x with mode := m }) .ok (.mode m)) ∨
       (f x.mode = none ∧ t = finish s .decodeFailure (.mode x.mode)))) := by
  rcases onLive_next h with hr | ⟨x, -, hx, hb⟩
  · exact .inl hr
  · refine .inr ⟨x, hx, ?_⟩
    cases hm : f x.mode with
    | some m =>
      simp only [hm, Host.Outcome.next.injEq] at hb
      exact .inl ⟨m, rfl, hb.symm⟩
    | none =>
      simp only [hm, Host.Outcome.next.injEq] at hb
      exact .inr ⟨rfl, hb.symm⟩

/-! ## Sequences, checksums, frames -/

theorem slice_length (b : Bytes) (i j : Nat) : (slice b i j).length = min j b.length - i := by
  simp [slice]

@[simp] theorem crc8_nil (t : Bytes) : crc8 t [] = 0 := rfl

/-- The fold goes on from the checksum of the first part. -/
theorem crc8_append (t a b : Bytes) : crc8 t (a ++ b) = b.foldl (crcStep t) (crc8 t a) := by
  simp [crc8]

theorem crc8_append_singleton (t a : Bytes) (x : Byte) :
    crc8 t (a ++ [x]) = crcStep t (crc8 t a) x := by simp [crc8]

/-- A frame is four bytes of header and one of checksum longer than its payload. -/
theorem buildFrame_length (t m p : Bytes) : (buildFrame t m p).length = m.length + p.length + 2 := by
  simp [buildFrame]
  omega

/-- A sequence whose last byte is `c` is valid exactly if `c` is the checksum of the rest. -/
theorem frameValid_append_singleton (t a : Bytes) (c : Byte) :
    frameValid t (a ++ [c]) = (crc8 t a == c) := by simp [frameValid]

/-- What `candidateOk` tests. -/
theorem candidateOk_iff (t buf : Bytes) (i l : Nat) :
    candidateOk t buf i l = true ↔
      2 ≤ l ∧ buf[i + 3 + (l - 1)]? = some (crc8 t (slice buf i (i + 3 + (l - 1)))) := by
  unfold candidateOk
  cases h : buf[i + 3 + (l - 1)]? with
  | none => simp
  | some c =>
    simp only [Bool.and_eq_true, decide_eq_true_eq, beq_iff_eq, Option.some.injEq]
    exact and_congr_right fun _ => eq_comm

end Sys2Proof.Machine
end

