-- ==== Sys2Proof/Laws/Exec.lean ====
section
/-!
SUPPORT. What an instruction can do, said once: an instruction that names instance `k` reads the
read-only memories, the configuration and k's register set, and then either stops or writes at most
k's register set, the mark and the return (`exec_named`); one that names none writes at most FAULT_G,
the mark and the return (`exec_unnamed`).
-/

namespace Sys2Proof.Machine

/-- What an instruction that names an instance decides from what it may read. -/
structure Effect where
  /-- The new register set, if it writes one. -/
  inst : Option Inst
  /-- The refusal it marks the run with, if any. -/
  mark : Option RefusalCause
  /-- What it returns. -/
  resp : Response

/-- Carry out an effect on instance `k`. -/
def Effect.apply (e : Effect) (k : Nat) (s : State) : State :=
  { s with
    insts := match e.inst with | some y => s.insts.set k y | none => s.insts
    refused := match e.mark with | some c => s.refused.or (some c) | none => s.refused
    response := some e.resp }

/-- The effect of a refusal. -/
def Effect.refused (c : RefusalCause) : Effect := ⟨none, some c, .refusedOp c⟩

theorem Effect.apply_refused (c : RefusalCause) (k : Nat) (s : State) :
    (Effect.refused c).apply k s = refuse s c := rfl

/-- `f` is decided by the read-only memories, the configuration and the register set of `k`. -/
def Local (k : Nat) (f : State → Host.Outcome State Fault Refusal) : Prop :=
  ∃ F : Bytes → Bytes → Config → Option Inst → Effect ⊕ Refusal, ∀ s : State,
    f s = match F s.crcTable s.magic s.cfg s.insts[k]? with
      | .inl e => .next (e.apply k s)
      | .inr r => .refused r

/-- A body run on the live instance `k` under `onLive` is local. -/
theorem local_onLive (k : Nat) (f : State → Host.Outcome State Fault Refusal)
    (B : Bytes → Bytes → Config → Inst → Effect)
    (h : ∀ s, f s = onLive s k fun x => .next ((B s.crcTable s.magic s.cfg x).apply k s)) :
    Local k f := by
  refine ⟨fun t m c o =>
    if c.wf then
      match o with
      | some x => if x.live then .inl (B t m c x) else .inl (.refused .notLive)
      | none => .inl (.refused .notLive)
    else .inl (.refused .illFormedConfig), fun s => ?_⟩
  rw [h]
  simp only [onLive, onConfig, State.live?]
  cases s.cfg.wf
  · rfl
  · cases s.insts[k]? with
    | none => rfl
    | some x =>
      obtain ⟨l, v, m, d, f⟩ := x
      cases l <;> rfl

/-- A command is local. -/
theorem local_command (k : Nat) (f : Bytes → Bytes → Config → Mode → Option Mode) :
    Local k fun s => command s k (f s.crcTable s.magic s.cfg) := by
  refine local_onLive k _ (fun t m c x =>
    match f t m c x.mode with
    | some m' => ⟨some { x with mode := m' }, none, .ret .ok (.mode m')⟩
    | none => ⟨none, none, .ret .decodeFailure (.mode x.mode)⟩) fun s => ?_
  simp only [command]
  congr 1
  funext x
  cases f s.crcTable s.magic s.cfg x.mode <;> rfl

/-- A command that reads nothing but the Mode record is local. -/
theorem local_fixed (k : Nat) (g : State → Host.Outcome State Fault Refusal)
    (f : Mode → Option Mode) (h : ∀ s, g s = command s k f) : Local k g := by
  rw [show g = fun s => command s k f from funext h]
  exact local_command k fun _ _ _ => f

/-- PARSE is a command whose effect the opcode map decides. -/
theorem parse_is_command (k : Nat) (p : Bytes) :
    ∃ f : OpcodeMap → Mode → Option Mode, ∀ s : State,
      exec (.parse k p) s = command s k (f s.cfg.opcodeMap) := by
  cases p with
  | nil => exact ⟨fun _ _ => none, fun _ => rfl⟩
  | cons op args =>
    have each (o : Option Opcode) : ∃ f : Mode → Option Mode, ∀ s : State,
        s.cfg.opcodeMap.find op = o → exec (.parse k (op :: args)) s = command s k f := by
      cases o with
      | none => exact ⟨some, fun s h => by simp only [exec, execParse, h, execUnknown]⟩
      | some o => cases o <;> exact ⟨_, fun s h => by simp only [exec, execParse, h]; rfl⟩
    choose g hg using each
    exact ⟨fun m => g (m.find op), fun s => hg _ s rfl⟩

/-- Everything an instruction that names an instance can do. -/
theorem exec_named (i : Instr) (k : Nat) (h : i.names = some k) : Local k (exec i) := by
  cases i
  case parse k' p =>
    cases h
    obtain ⟨f, hf⟩ := parse_is_command k p
    rw [show exec (.parse k p) = fun s => command s k (f s.cfg.opcodeMap) from funext hf]
    exact local_command k fun _ _ c => f c.opcodeMap
  case connect k' v =>
    cases h
    refine ⟨fun _ _ c _ =>
      if c.wf then
        if k < c.nInstances then
          if v < c.variants.length then .inl ⟨some (connectedInst c v), none, .ret .ok .nothing⟩
          else .inr .noSuchRevision
        else .inr .noSuchInstance
      else .inl (.refused .illFormedConfig), fun s => ?_⟩
    simp only [exec, execConnect, onConfig]
    repeat' split
    all_goals first | rfl | simp_all
    all_goals subst_vars; rfl
  case disconnect k' =>
    cases h
    refine ⟨fun _ _ c o =>
      if c.wf then
        match o with
        | some x =>
          if x.live then .inl ⟨some { x with live := false }, none, .ret .ok .nothing⟩
          else .inl ⟨none, none, .ret .ok .nothing⟩
        | none => .inl ⟨none, none, .ret .ok .nothing⟩
      else .inl (.refused .illFormedConfig), fun s => ?_⟩
    simp only [exec, execDisconnect, onConfig, State.live?]
    cases s.cfg.wf
    · rfl
    · cases s.insts[k]? with
      | none => rfl
      | some x =>
        obtain ⟨l, v, m, d, f⟩ := x
        cases l <;> rfl
  case buildAck k' op =>
    cases h
    exact local_onLive k _ (fun t m _ x =>
      ⟨none, none, .ret .ok (.bytes (buildFrame t m ([op] ++ x.dev.serialize)))⟩) fun _ => rfl
  case modeRead k' =>
    cases h
    exact local_onLive k _ (fun _ _ _ x => ⟨none, none, .ret .ok (.mode x.mode)⟩) fun _ => rfl
  case devstateLoad k' r =>
    cases h
    refine local_onLive k _ (fun _ _ c x =>
      if r.isOf c x.variant then ⟨some { x with dev := r }, none, .ret .ok .nothing⟩
      else .refused .wrongVariant) fun s => ?_
    simp only [exec, execDevstateLoad]
    congr 1
    funext x
    split <;> rfl
  case faultRead sel =>
    cases sel with
    | global => cases h
    | ofInst k' =>
      cases h
      exact local_onLive k _ (fun _ _ _ x => ⟨none, none, .ret .ok (.faultReg x.fault)⟩) fun _ => rfl
  all_goals first
    | (cases h
       apply local_fixed
       intro s
       simp only [exec, execEcho, execAck, execTestMode, execSetTime, execTxd, execRxd, execOutput,
         execRequestToExit, execDoorControl, execRelay, execTamper, execButton, execBuzzer,
         execLedRed, execLedGreen, execLedBlue, execWifiCredentials, execUnknown, execEmptyPayload]
       rfl)
    | cases h

/-- Everything an instruction that names no instance can do. -/
theorem exec_unnamed {i : Instr} {s t : State} (hi : i.names = none) (h : exec i s = .next t) :
    (∃ r, t = refuse s r) ∨ (∃ rs o, t = finish s rs o) ∨
    (∃ p, i = .frameEncode p ∧ 253 < p.length ∧ t = raise s .global .payloadTooLong p.length) ∨
    (∃ f, i = .frameStrip f ∧ f.length < 5 ∧ t = raise s .global .stripShort f.length) := by
  cases i <;> simp only [Instr.names, reduceCtorEq] at hi
  case crc8Compute b =>
    rcases onConfig_next h with ⟨-, rfl⟩ | ⟨-, hb⟩
    · exact .inl ⟨_, rfl⟩
    · cases hb
      exact .inr (.inl ⟨_, _, rfl⟩)
  case crc8Verify b e =>
    rcases onConfig_next h with ⟨-, rfl⟩ | ⟨-, hb⟩
    · exact .inl ⟨_, rfl⟩
    · cases hb
      exact .inr (.inl ⟨_, _, rfl⟩)
  case frameEncode p =>
    rcases onConfig_next h with ⟨-, rfl⟩ | ⟨-, hb⟩
    · exact .inl ⟨_, rfl⟩
    · split at hb <;> cases hb
      · exact .inr (.inr (.inl ⟨p, rfl, ‹_›, rfl⟩))
      · exact .inr (.inl ⟨_, _, rfl⟩)
  case frameStrip f =>
    rcases onConfig_next h with ⟨-, rfl⟩ | ⟨-, hb⟩
    · exact .inl ⟨_, rfl⟩
    · split at hb <;> cases hb
      · exact .inr (.inr (.inr ⟨f, rfl, ‹_›, rfl⟩))
      · exact .inr (.inl ⟨_, _, rfl⟩)
  case frameValidate f =>
    rcases onConfig_next h with ⟨-, rfl⟩ | ⟨-, hb⟩
    · exact .inl ⟨_, rfl⟩
    · split at hb <;> cases hb <;> exact .inr (.inl ⟨_, _, rfl⟩)
  case frameScan buf =>
    rcases onConfig_next h with ⟨-, rfl⟩ | ⟨-, hb⟩
    · exact .inl ⟨_, rfl⟩
    · split at hb <;> cases hb <;> exact .inr (.inl ⟨_, _, rfl⟩)
  case faultRead sel =>
    cases sel with
    | ofInst k => cases hi
    | global =>
      rcases onConfig_next h with ⟨-, rfl⟩ | ⟨-, hb⟩
      · exact .inl ⟨_, rfl⟩
      · cases hb
        exact .inr (.inl ⟨_, _, rfl⟩)

end Sys2Proof.Machine
end

