-- ==== Sys2Proof/Laws/PerInstr.lean ====
section
/-!
SUPPORT. Facts stated for every instruction, one lemma per constructor.
-/

namespace Sys2Proof.Laws.EncodedLength

/-- R78: no command's payload is longer than the pulsing BUZZER's eight bytes. -/
def Statement (i : Instr) : Prop :=
  ∀ (m : OpcodeMap) (p : Bytes), encode m i = some p → p.length ≤ longestPayload

theorem echo (k : Nat) : Statement (.echo k) := by
  intro m p h
  simp only [encode, Option.some.injEq] at h
  simp [← h, longestPayload]

theorem ack (k : Nat) : Statement (.ack k) := by
  intro m p h
  simp only [encode, Option.some.injEq] at h
  simp [← h, longestPayload]

theorem testMode (k : Nat) (level : ByteArg) : Statement (.testMode k level) := by
  intro m p h
  cases level <;> simp [encode, byteArgBytes] at h <;> subst h <;> simp [longestPayload]

theorem setTime (k : Nat) (time : TimeArg) : Statement (.setTime k time) := by
  intro m p h
  cases time <;> simp [encode, timeArgBytes] at h <;> subst h <;> simp [longestPayload, le32Bytes]

theorem txd (k : Nat) : Statement (.txd k) := by
  intro m p h
  simp only [encode, Option.some.injEq] at h
  simp [← h, longestPayload]

theorem rxd (k : Nat) : Statement (.rxd k) := by
  intro m p h
  simp only [encode, Option.some.injEq] at h
  simp [← h, longestPayload]

theorem output (k : Nat) : Statement (.output k) := by
  intro m p h
  simp only [encode, Option.some.injEq] at h
  simp [← h, longestPayload]

theorem requestToExit (k : Nat) : Statement (.requestToExit k) := by
  intro m p h
  simp only [encode, Option.some.injEq] at h
  simp [← h, longestPayload]

theorem doorControl (k : Nat) : Statement (.doorControl k) := by
  intro m p h
  simp only [encode, Option.some.injEq] at h
  simp [← h, longestPayload]

theorem relay (k : Nat) : Statement (.relay k) := by
  intro m p h
  simp only [encode, Option.some.injEq] at h
  simp [← h, longestPayload]

theorem tamper (k : Nat) : Statement (.tamper k) := by
  intro m p h
  simp only [encode, Option.some.injEq] at h
  simp [← h, longestPayload]

theorem button (k : Nat) : Statement (.button k) := by
  intro m p h
  simp only [encode, Option.some.injEq] at h
  simp [← h, longestPayload]

theorem buzzer (k : Nat) (arg : BuzzerArg) : Statement (.buzzer k arg) := by
  intro m p h
  cases arg <;> simp [encode, buzzerArgBytes] at h <;> subst h <;> simp [longestPayload, be16Bytes]

theorem ledRed (k : Nat) (intensity : ByteArg) : Statement (.ledRed k intensity) := by
  intro m p h
  cases intensity <;> simp [encode, byteArgBytes] at h <;> subst h <;> simp [longestPayload]

theorem ledGreen (k : Nat) (intensity : ByteArg) : Statement (.ledGreen k intensity) := by
  intro m p h
  cases intensity <;> simp [encode, byteArgBytes] at h <;> subst h <;> simp [longestPayload]

theorem ledBlue (k : Nat) : Statement (.ledBlue k) := by
  intro m p h
  simp only [encode, Option.some.injEq] at h
  simp [← h, longestPayload]

theorem wifiCredentials (k : Nat) : Statement (.wifiCredentials k) := by
  intro m p h
  simp only [encode, Option.some.injEq] at h
  simp [← h, longestPayload]

theorem unknown (k : Nat) (op : Byte) : Statement (.unknown k op) := by
  intro m p h
  simp only [encode, Option.some.injEq] at h
  simp [← h, longestPayload]

theorem emptyPayload (k : Nat) : Statement (.emptyPayload k) := by
  intro m p h
  simp only [encode, Option.some.injEq] at h
  simp [← h, longestPayload]

theorem crc8Compute (b : Bytes) : Statement (.crc8Compute b) := by
  intro m p h
  simp [encode] at h

theorem crc8Verify (b : Bytes) (expected : Byte) : Statement (.crc8Verify b expected) := by
  intro m p h
  simp [encode] at h

theorem frameEncode (p : Bytes) : Statement (.frameEncode p) := by
  intro m p h
  simp [encode] at h

theorem frameStrip (f : Bytes) : Statement (.frameStrip f) := by
  intro m p h
  simp [encode] at h

theorem frameValidate (f : Bytes) : Statement (.frameValidate f) := by
  intro m p h
  simp [encode] at h

theorem frameScan (buf : Bytes) : Statement (.frameScan buf) := by
  intro m p h
  simp [encode] at h

theorem parse (k : Nat) (p : Bytes) : Statement (.parse k p) := by
  intro m p h
  simp [encode] at h

theorem buildAck (k : Nat) (op : Byte) : Statement (.buildAck k op) := by
  intro m p h
  simp [encode] at h

theorem modeRead (k : Nat) : Statement (.modeRead k) := by
  intro m p h
  simp [encode] at h

theorem devstateLoad (k : Nat) (r : DevRecord) : Statement (.devstateLoad k r) := by
  intro m p h
  simp [encode] at h

theorem faultRead (sel : FaultSel) : Statement (.faultRead sel) := by
  intro m p h
  simp [encode] at h

theorem connect (k : Nat) (v : Nat) : Statement (.connect k v) := by
  intro m p h
  simp [encode] at h

theorem disconnect (k : Nat) : Statement (.disconnect k) := by
  intro m p h
  simp [encode] at h

end Sys2Proof.Laws.EncodedLength
end

