-- ==== Sys2Proof/Tests/Slice0.lean ====
section
/-!
SUPPORT. Tests. Every expected value is a vector of 95_test_vectors.md (its number stands in the
comment), a word written out from the encodings of 30_encoding.md, or a listing of the spec. The
witnesses at the end meet the hypotheses of the statements in Certificates/Slice0/Obligations.lean.
-/

namespace Sys2Proof.Machine.Tests

/-- What the operation returned. -/
def respOf : Host.Outcome State Fault Refusal → Option Response
  | .next t => t.response
  | _ => none

/-- A register set after the operation. -/
def instOf (k : Nat) : Host.Outcome State Fault Refusal → Option Inst
  | .next t => t.insts[k]?
  | _ => none

/-- A field of the Mode record of instance 0 after the operation. -/
def modeOf (o : Host.Outcome State Fault Refusal) : Option Mode := (instOf 0 o).map Inst.mode

/-- FAULT_G after the operation. -/
def faultOf : Host.Outcome State Fault Refusal → Option FaultReg
  | .next t => some t.faultG
  | _ => none

/-- Power-on, then CONNECT 0 with revision TC4. -/
def live1 : State := { State.reset with insts := [connectedInst defaultConfig 0, Inst.powerOn] }

/-- Both instances connected, 0 with TC4 and 1 with TC6. -/
def live2 : State :=
  { State.reset with insts := [connectedInst defaultConfig 0, connectedInst defaultConfig 1] }

/-- `live1` with another Mode record. -/
def withMode (m : Mode) : State :=
  { live1 with insts := [{ connectedInst defaultConfig 0 with mode := m }, Inst.powerOn] }

/-- V7.12's end state. -/
def pulsed : Mode := { Mode.zero with buzState := 2, buzCount := 5, buzInterval := 100, buzDuration := 1000 }

/-- The frame F1 (LED_RED 1). -/
def f1 : Bytes := [0x23, 0x40, 0x21, 0x04, 0x0D, 0x01, 0x15]

/-! ## Well-formedness: an ill-formed term for each check -/

theorem test_wf_instance_out_of_range : (Instr.echo 2).wf defaultConfig = false := by decide
theorem test_wf_buzzer_state_pulsing :
    (Instr.buzzer 0 (.state 0x02)).wf defaultConfig = false := by decide
theorem test_wf_unknown_named : (Instr.unknown 0 0x0F).wf defaultConfig = false := by decide
theorem test_wf_record_of_wrong_layout :
    (Instr.devstateLoad 0 ⟨0, [.f16 1]⟩).wf defaultConfig = false := by decide
theorem test_wf_record_of_no_revision :
    (Instr.devstateLoad 0 ⟨7, []⟩).wf defaultConfig = false := by decide
theorem test_wf_connect_no_revision : (Instr.connect 0 2).wf defaultConfig = false := by decide
theorem test_wf_ok : (Instr.connect 1 1).wf defaultConfig = true ∧
    (Instr.devstateLoad 0 ⟨1, [.f16 1, .f32 2]⟩).wf defaultConfig = true ∧
    (Instr.unknown 1 0xFF).wf defaultConfig = true ∧
    (Instr.buzzer 1 (.state 0x01)).wf defaultConfig = true := by decide

/-- R8: two equal opcodes, an opcode 0xFF, another LED_RED, a STATE_SIZE of 253; 252 is allowed (V8.7,
V8.8). -/
theorem test_config_wf :
    defaultConfig.wf = true ∧
    ({ defaultConfig with opcodeMap := { OpcodeMap.default with ack := 0x00 } } : Config).wf = false ∧
    ({ defaultConfig with opcodeMap := { OpcodeMap.default with txd := 0xFF } } : Config).wf = false ∧
    ({ defaultConfig with opcodeMap := { OpcodeMap.default with ledRed := 0x20 } } : Config).wf = false ∧
    ({ defaultConfig with variants := [List.replicate 63 .w32 ++ [.w8]] } : Config).wf = false ∧
    ({ defaultConfig with variants := [List.replicate 63 .w32] } : Config).wf = true := by
  decide +kernel

/-! ## Decoding: words written out from R78, R80, R86 -/

theorem test_decode_handled :
    decodePayload OpcodeMap.default 1 [0x00] = .echo 1 ∧
    decodePayload OpcodeMap.default 1 [0x01] = .ack 1 ∧
    decodePayload OpcodeMap.default 1 [0x02, 0x07] = .testMode 1 (.byte 0x07) ∧
    decodePayload OpcodeMap.default 1 [0x02] = .testMode 1 .missing ∧
    decodePayload OpcodeMap.default 1 [0x0D, 0x01] = .ledRed 1 (.byte 0x01) ∧
    decodePayload OpcodeMap.default 1 [0x0E, 0xFF] = .ledGreen 1 (.byte 0xFF) := by decide

theorem test_decode_long :
    decodePayload OpcodeMap.default 1 [0x0C, 0x01] = .buzzer 1 (.state 0x01) ∧
    decodePayload OpcodeMap.default 1 [0x0C, 0x02, 0xFF, 0xFF, 0x00, 0x00, 0x80, 0x01] =
      .buzzer 1 (.pulse 0xFFFF 0 0x8001) ∧
    decodePayload OpcodeMap.default 1 [0x0C, 0x02, 0x00, 0x05, 0x00, 0x64, 0x03] =
      .buzzer 1 .pulseMissing ∧
    decodePayload OpcodeMap.default 1 [0x03, 0x00, 0x78, 0x56, 0x34, 0x12] =
      .setTime 1 (.time 0 0x12345678) ∧
    decodePayload OpcodeMap.default 1 [0x03, 0x00, 0x01, 0x02, 0x03] = .setTime 1 .missing := by decide

theorem test_decode_unhandled :
    decodePayload OpcodeMap.default 1 [0x04] = .txd 1 ∧
    decodePayload OpcodeMap.default 1 [0x05] = .rxd 1 ∧
    decodePayload OpcodeMap.default 1 [0x06] = .output 1 ∧
    decodePayload OpcodeMap.default 1 [0x07, 0x01] = .requestToExit 1 ∧
    decodePayload OpcodeMap.default 1 [0x08] = .doorControl 1 ∧
    decodePayload OpcodeMap.default 1 [0x09] = .relay 1 ∧
    decodePayload OpcodeMap.default 1 [0x0A] = .tamper 1 ∧
    decodePayload OpcodeMap.default 1 [0x0B] = .button 1 ∧
    decodePayload OpcodeMap.default 1 [0x0F] = .ledBlue 1 ∧
    decodePayload OpcodeMap.default 1 [0x10, 0x01] = .wifiCredentials 1 ∧
    decodePayload OpcodeMap.default 1 [0x11] = .unknown 1 0x11 ∧
    decodePayload OpcodeMap.default 1 [0xFF] = .unknown 1 0xFF ∧
    decodePayload OpcodeMap.default 1 [] = .emptyPayload 1 := by decide

/-- R86: SET_TIME's time low byte first, BUZZER's fields high byte first (P2, P3). -/
theorem test_encode :
    encode OpcodeMap.default (.setTime 0 (.time 0 0x40302010)) =
      some [0x03, 0x00, 0x10, 0x20, 0x30, 0x40] ∧
    encode OpcodeMap.default (.buzzer 0 (.pulse 0x0003 0x01F4 0x00C8)) =
      some [0x0C, 0x02, 0x00, 0x03, 0x01, 0xF4, 0x00, 0xC8] := by decide

/-- Table words: TEST_MODE's first byte is the low one. -/
theorem test_table_words :
    decodeTableWord 8 0x0D = some (.ledRed 0 (.byte 0)) ∧
    decodeTableWord 16 0x0702 = some (.testMode 0 (.byte 0x07)) ∧
    decodeTableWord 8 0x0C = some (.buzzer 0 (.state 0)) ∧
    decodeTableWord 8 0x03 = some (.setTime 0 (.time 0 0)) ∧
    decodeTableWord 0 0 = some (.emptyPayload 0) := by decide

/-- The first step after reset runs the placed word. -/
theorem test_fetch_word :
    respOf (step (State.reset.withFetchWord 16 0x0702)) =
      some (.ret .ok (.mode { Mode.zero with testLevel := 0x07 })) := by decide +kernel

/-! ## CRC8 -/

/-- R101 generates R102. -/
theorem test_crc_table_generated :
    crcTableRom = (List.range 256).map (fun i => crcShift8 (BitVec.ofNat 8 i)) := by decide +kernel

/-- V1.11, the check value (R108), V1.12, V1.13 (R136), V1.3, V1.6, V1.10, V1.15. -/
theorem test_crc_values :
    crc8 crcTableRom [0x31, 0x32, 0x33, 0x34, 0x35, 0x36, 0x37, 0x38, 0x39] = 0xF4 ∧
    crc8 crcTableRom [0x23, 0x40] = 0x56 ∧ crc8 crcTableRom [0x23, 0x40, 0x21] = 0x42 ∧
    crc8 crcTableRom [0x01] = 0x07 ∧ crc8 crcTableRom [0xFF] = 0xF3 ∧
    crc8 crcTableRom [0xFF, 0xFF] = 0x24 ∧ crc8 crcTableRom [0x0D, 0x01] = 0xEE := by decide +kernel

/-- V1.14. -/
theorem test_crc_compute :
    respOf (exec (.crc8Compute [0x23, 0x40, 0x21, 0x04, 0x0D, 0x01]) State.reset) =
      some (.ret .ok (.crc 0x15)) := by decide +kernel

/-- V2.4. -/
theorem test_crc_verify :
    respOf (exec (.crc8Verify [] 0xFF) State.reset) =
      some (.ret .checksumMismatch (.verified false)) := by decide +kernel

/-! ## Frames -/

/-- V3.12. -/
theorem test_encode_frame :
    respOf (exec (.frameEncode [0x0C, 0x02, 0x00, 0x05, 0x00, 0x64, 0x03, 0xE8]) State.reset) =
      some (.ret .ok (.bytes [0x23, 0x40, 0x21, 0x0A, 0x0C, 0x02, 0x00, 0x05, 0x00, 0x64, 0x03, 0xE8,
        0x9C])) := by decide +kernel

/-- V3.18 to V3.20: 253 bytes encode with LENGTH FF and CRC 5A, 300 fault with info 300. -/
theorem test_encode_bounds :
    respOf (exec (.frameEncode ((List.range 253).map (BitVec.ofNat 8))) State.reset) =
      some (.ret .ok (.bytes ([0x23, 0x40, 0x21, 0xFF] ++ (List.range 253).map (BitVec.ofNat 8) ++
        [0x5A]))) ∧
    respOf (exec (.frameEncode (List.replicate 300 0)) State.reset) =
      some (.faulted .payloadTooLong 300) := by decide +kernel

/-- V4.5. -/
theorem test_strip :
    respOf (exec (.frameStrip [0xAA, 0xBB, 0xCC, 0xDD, 0xEE, 0xEF]) State.reset) =
      some (.ret .ok (.bytes [0xEE])) := by decide +kernel

/-- V10.2, V10.3: FAULT_G takes the cause, and keeps the first. -/
theorem test_strip_fault :
    faultOf (exec (.frameStrip [0x23, 0x40, 0x21, 0x02]) State.reset) = some ⟨true, 0x11⟩ ∧
    faultOf (exec (.frameStrip [0x23, 0x40, 0x21, 0x02])
      { State.reset with faultG := ⟨true, 0x10⟩ }) = some ⟨true, 0x10⟩ := by decide +kernel

/-- V5.13 (MAGIC not checked), V5.10. -/
theorem test_validate :
    respOf (exec (.frameValidate [0x55, 0x40, 0x21, 0x04, 0x0D, 0x01, 0x30]) State.reset) =
      some (.ret .ok (.validated true false)) ∧
    respOf (exec (.frameValidate [0x23, 0x40, 0x21, 0x04, 0x0C, 0x01, 0x15]) State.reset) =
      some (.ret .checksumMismatch (.validated false true)) := by decide +kernel

/-- V5.3, V5.4. -/
theorem test_validate_short :
    respOf (exec (.frameValidate []) State.reset) = some (.ret .noFrame (.validated false false)) ∧
    respOf (exec (.frameValidate [0x00]) State.reset) =
      some (.ret .ok (.validated true false)) := by decide +kernel

/-- V6.7 (a frame inside a false candidate's length), V6.6, V6.9, V6.8, V6.14. -/
theorem test_scan_found :
    respOf (exec (.frameScan (magicRom ++ [0x08] ++ f1)) State.reset) =
      some (.ret .ok (.found 4 7)) ∧
    respOf (exec (.frameScan (magicRom ++ [0x04, 0x00, 0x00, 0x00] ++ f1)) State.reset) =
      some (.ret .ok (.found 7 7)) ∧
    respOf (exec (.frameScan (magicRom ++ [0x00] ++ f1)) State.reset) =
      some (.ret .ok (.found 4 7)) ∧
    respOf (exec (.frameScan (magicRom ++ [0x40] ++ f1)) State.reset) =
      some (.ret .ok (.found 4 7)) ∧
    respOf (exec (.frameScan ([0x00, 0x23, 0x40] ++ f1 ++ [0x23])) State.reset) =
      some (.ret .ok (.found 3 7)) := by decide +kernel

/-- V6.5, V6.13, V6.1. -/
theorem test_scan_none :
    respOf (exec (.frameScan f1.dropLast) State.reset) = some (.ret .noFrame .noFrame) ∧
    respOf (exec (.frameScan [0x11, 0x23, 0x40, 0x21]) State.reset) =
      some (.ret .noFrame .noFrame) ∧
    respOf (exec (.frameScan []) State.reset) = some (.ret .noFrame .noFrame) := by decide +kernel

/-! ## Commands -/

/-- V7.1, V7.3. -/
theorem test_echo_ack :
    modeOf (exec (.parse 0 [0x00]) live1) = some { Mode.zero with echoEn := true } ∧
    respOf (exec (.parse 0 [0x01]) live1) = some (.ret .ok (.mode Mode.zero)) := by decide +kernel

/-- V7.4, V7.8, V7.9. -/
theorem test_byte_commands :
    modeOf (exec (.parse 0 [0x02, 0x07]) live1) = some { Mode.zero with testLevel := 0x07 } ∧
    modeOf (exec (.parse 0 [0x0D, 0x01, 0x99]) live1) = some { Mode.zero with ledRed := 0x01 } ∧
    modeOf (exec (.parse 0 [0x0E, 0xFF]) live1) = some { Mode.zero with ledGreen := 0xFF } := by
  decide +kernel

/-- V7.14, V7.15 (the counts are kept). -/
theorem test_buzzer :
    modeOf (exec (.parse 0 [0x0C, 0x02, 0xFF, 0xFF, 0x00, 0x00, 0x80, 0x01]) live1) =
      some { Mode.zero with buzState := 0x02, buzCount := 0xFFFF, buzDuration := 0x8001 } ∧
    modeOf (exec (.parse 0 [0x0C, 0x01]) (withMode pulsed)) =
      some { pulsed with buzState := 0x01 } := by decide +kernel

/-- V7.16 (nothing written), V7.11. -/
theorem test_buzzer_missing :
    respOf (exec (.parse 0 [0x0C, 0x02, 0x00, 0x07]) (withMode pulsed)) =
      some (.ret .decodeFailure (.mode pulsed)) ∧
    respOf (exec (.parse 0 [0x0C]) live1) = some (.ret .decodeFailure (.mode Mode.zero)) := by
  decide +kernel

/-- V7.18, V7.19. -/
theorem test_set_time :
    modeOf (exec (.parse 0 [0x03, 0xAA, 0x78, 0x56, 0x34, 0x12]) live1) =
      some { Mode.zero with clock := 0x12345678 } ∧
    respOf (exec (.parse 0 [0x03, 0x00, 0x01, 0x02, 0x03]) live1) =
      some (.ret .decodeFailure (.mode Mode.zero)) := by decide +kernel

/-- V7.21, V7.22, V7.23, V7.24. -/
theorem test_no_effect :
    respOf (exec (.parse 0 [0xFF]) (withMode pulsed)) = some (.ret .ok (.mode pulsed)) ∧
    respOf (exec (.parse 0 [0x04]) live1) = some (.ret .ok (.mode Mode.zero)) ∧
    respOf (exec (.parse 0 [0x10, 0x01]) live1) = some (.ret .ok (.mode Mode.zero)) ∧
    respOf (exec (.parse 0 []) live1) = some (.ret .decodeFailure (.mode Mode.zero)) := by
  decide +kernel

/-- V7.26, V9.1: refused; the mark is set. -/
theorem test_not_live :
    respOf (exec (.parse 0 [0x00]) State.reset) = some (.refusedOp .notLive) ∧
    respOf (exec (.modeRead 0) State.reset) = some (.refusedOp .notLive) := by decide +kernel

/-! ## Acknowledgements, access, lifecycle -/

/-- V8.2 and V8.5 (little-endian fields). -/
theorem test_build_ack :
    respOf (exec (.buildAck 0 0x01) { live1 with insts :=
      [{ connectedInst defaultConfig 0 with dev := ⟨0, [.f8 1, .f8 2, .f8 3, .f8 4]⟩ }] }) =
      some (.ret .ok (.bytes [0x23, 0x40, 0x21, 0x07, 0x01, 0x01, 0x02, 0x03, 0x04, 0x7A])) ∧
    respOf (exec (.buildAck 1 0x01) { live2 with insts := [Inst.powerOn,
      { connectedInst defaultConfig 1 with dev := ⟨1, [.f16 0x1234, .f32 0xAABBCCDD]⟩ }] }) =
      some (.ret .ok (.bytes [0x23, 0x40, 0x21, 0x09, 0x01, 0x34, 0x12, 0xDD, 0xCC, 0xBB, 0xAA,
        0x9A])) := by decide +kernel

/-- V8.1: the zero record. -/
theorem test_build_ack_zero :
    respOf (exec (.buildAck 0 0x01) live1) =
      some (.ret .ok (.bytes [0x23, 0x40, 0x21, 0x07, 0x01, 0, 0, 0, 0, 0x99])) := by decide +kernel

/-- V9.6's load, V9.7. -/
theorem test_devstate_load :
    (instOf 0 (exec (.devstateLoad 0 ⟨0, [.f8 1, .f8 2, .f8 3, .f8 4]⟩) live1)).map Inst.dev =
      some ⟨0, [.f8 1, .f8 2, .f8 3, .f8 4]⟩ ∧
    respOf (exec (.devstateLoad 0 ⟨1, [.f16 1, .f32 2]⟩) live1) =
      some (.refusedOp .wrongVariant) := by decide +kernel

/-- V9.2, V9.4, V10.5. -/
theorem test_fault_read :
    respOf (exec (.faultRead .global) State.reset) = some (.ret .ok (.faultReg ⟨false, 0x00⟩)) ∧
    respOf (exec (.faultRead (.ofInst 0)) { live1 with faultG := ⟨true, 0x10⟩ }) =
      some (.ret .ok (.faultReg ⟨false, 0x00⟩)) := by decide +kernel

/-- V9.3. -/
theorem test_mode_read :
    respOf (exec (.modeRead 0) live1) = some (.ret .ok (.mode Mode.zero)) := by decide +kernel

/-- V9.5: CONNECT of a live instance resets it. -/
theorem test_connect :
    instOf 0 (exec (.connect 0 0) (withMode pulsed)) =
      some ⟨true, 0, Mode.zero, ⟨0, [.f8 0, .f8 0, .f8 0, .f8 0]⟩, ⟨false, 0x00⟩⟩ := by decide +kernel

/-- V9.8, V9.9. -/
theorem test_disconnect :
    (instOf 0 (exec (.disconnect 0) live1)).map Inst.live = some false ∧
    instOf 1 (exec (.disconnect 1) live1) = some Inst.powerOn := by decide +kernel

/-! ## Witnesses: states and operands that meet the statements' hypotheses -/

/-- The common hypotheses: a well-formed configuration, the read-only memories, a live instance. -/
theorem witness_live :
    live1.cfg.wf = true ∧ live1.live? 0 = some (connectedInst defaultConfig 0) ∧
    live1.magic = magicRom ∧ live1.crcTable = crcTableRom := by decide +kernel

theorem witness_reset_wf : State.reset.cfg.wf = true ∧ State.reset.live? 0 = none := by
  decide +kernel

/-- StepRunsTheDecodedInstruction: an operation issued, a PARSE issued, none issued. -/
theorem witness_step :
    ({ live1 with pending := [.parse 0 [0x00]] } : State).pending = .parse 0 [0x00] :: [] ∧
    decodePayload live1.cfg.opcodeMap 0 [0x00] = .echo 0 ∧ live1.pending = [] := by decide +kernel

/-- DecodeOfEncodeIsTheCommand. -/
theorem witness_round_trip :
    (Instr.buzzer 1 (.pulse 1 2 3)).wf defaultConfig = true ∧
    (Instr.buzzer 1 (.pulse 1 2 3)).names = some 1 ∧
    encode defaultConfig.opcodeMap (.buzzer 1 (.pulse 1 2 3)) =
      some [0x0C, 0x02, 0x00, 0x01, 0x00, 0x02, 0x00, 0x03] := by decide +kernel

/-- CrcVerifyComparesChecksum, both clauses. -/
theorem witness_verify :
    crc8 State.reset.crcTable [] = 0x00 ∧ crc8 State.reset.crcTable [] ≠ 0xFF := by decide +kernel

/-- ChecksumCornerCases: a byte to change. -/
theorem witness_changed_byte : 6 < f1.length ∧ f1[6]? ≠ some 0x14 := by decide

/-- FrameEncode's two statements at their boundary. -/
theorem witness_payload_bounds :
    (List.replicate 253 (0 : Byte)).length ≤ 253 ∧ 253 < (List.replicate 254 (0 : Byte)).length := by
  decide +kernel

/-- FrameStrip's two statements at their boundary: 5 bytes and 4. -/
theorem witness_strip_bounds :
    ((0x23 : Byte) :: 0x40 :: 0x21 :: 0x02 :: [] ++ [0xC7]).length = 5 ∧
    [(0x23 : Byte), 0x40, 0x21, 0x02].length < 5 := by decide

/-- FrameValidateChecksTheLastByte, last clause; ValidIffWholeChecksumZero. -/
theorem witness_validate :
    (0x14 : Byte) ≠ crc8 State.reset.crcTable f1.dropLast ∧ f1 ≠ [] := by decide +kernel

/-- OneCorruptedByteIsDetected (with `witness_changed_byte`). -/
theorem witness_valid_frame :
    exec (.frameValidate f1) live1 =
      .next { live1 with response := some (.ret .ok (.validated true false)) } := by rfl

/-- EmbeddedFrameIsFound, ReceiveRunsTheSentCommand. -/
theorem witness_embedded :
    exec (.frameEncode [0x0D, 0x01]) live1 =
      .next { live1 with response := some (.ret .ok (.bytes f1)) } ∧
    (∀ o n, o < [(0x55 : Byte)].length →
      ¬ FrameAt live1.crcTable live1.magic ([0x55] ++ f1 ++ [0xAA]) o n) ∧
    (Instr.ledRed 0 (.byte 0x01)).wf live1.cfg = true ∧
    encode live1.cfg.opcodeMap (.ledRed 0 (.byte 0x01)) = some [0x0D, 0x01] ∧
    send live1.cfg.opcodeMap (.ledRed 0 (.byte 0x01)) = some (.frameEncode [0x0D, 0x01]) := by
  refine ⟨by rfl, ?_, by decide +kernel, by decide +kernel, by decide +kernel⟩
  intro o n ho h
  have ho' : o = 0 := by simpa using ho
  subst ho'
  exact absurd h.1 (by decide +kernel)

/-- FoundFrameStripsWithoutFault. -/
theorem witness_found :
    exec (.frameScan ([0x55] ++ f1)) live1 =
      .next { live1 with response := some (.ret .ok (.found 1 7)) } := by rfl

/-- ShortPayloadIsADecodeFailure: the longest short payload of each clause. -/
theorem witness_short_payload :
    ([] : Bytes).length + 1 < 2 ∧
    ([0x02, 0x00, 0x05, 0x00, 0x64, 0x03] : Bytes).head? = some 0x02 ∧
    ([0x02, 0x00, 0x05, 0x00, 0x64, 0x03] : Bytes).length + 1 < 8 ∧
    ([0x00, 0x01, 0x02, 0x03] : Bytes).length + 1 < 6 := by decide

/-- ExtraPayloadBytesAreIgnored, ParseTwiceIsParseOnce, OnlyParseAndConnectWriteMode,
ClockChangesOnlyBySetTime, EchoEnableStaysUntilConnect: a PARSE that completes with OK. -/
theorem witness_parse_ok :
    ∃ t x y, exec (.parse 0 [0x03, 0x00, 0x78, 0x56, 0x34, 0x12])
        (withMode { Mode.zero with echoEn := true }) = .next t ∧
      t.response = some (.ret .ok (.mode { Mode.zero with echoEn := true, clock := 0x12345678 })) ∧
      (withMode { Mode.zero with echoEn := true }).insts[0]? = some x ∧ t.insts[0]? = some y ∧
      x.mode.echoEn = true ∧ y.mode ≠ x.mode ∧ y.mode.clock ≠ x.mode.clock := by
  refine ⟨_, _, _, rfl, ?_, rfl, rfl, ?_, ?_, ?_⟩ <;> decide +kernel

/-- DeviceStateSerialization; DevstateLoadWritesTheRecord, both clauses. -/
theorem witness_record :
    defaultConfig.variants[1]? = some layoutTC6 ∧
    (⟨1, [.f16 1, .f32 2]⟩ : DevRecord).isOf defaultConfig 1 = true ∧
    (⟨1, [.f16 1, .f32 2]⟩ : DevRecord).isOf live1.cfg (connectedInst defaultConfig 0).variant = false ∧
    (⟨0, [.f8 1, .f8 2, .f8 3, .f8 4]⟩ : DevRecord).isOf live1.cfg
      (connectedInst defaultConfig 0).variant = true := by decide +kernel

/-- ConnectResetsTheInstance at its upper bounds; ConnectOutOfRangeStops just above them. -/
theorem witness_connect_bounds :
    1 < State.reset.cfg.nInstances ∧ 1 < State.reset.cfg.variants.length ∧
    State.reset.cfg.nInstances ≤ 2 ∧ State.reset.cfg.variants.length ≤ 2 := by decide +kernel

/-- NotLiveIsRefused; DisconnectClearsLive, second clause. -/
theorem witness_not_live :
    (Instr.modeRead 0).names = some 0 ∧ State.reset.live? 0 = none ∧
    (∀ v, Instr.modeRead 0 ≠ .connect 0 v) ∧ Instr.modeRead 0 ≠ .disconnect 0 := by
  exact ⟨rfl, by decide +kernel, fun _ => Instr.noConfusion, Instr.noConfusion⟩

/-- IllFormedConfigRunsNothing. -/
theorem witness_ill_formed :
    ({ live1 with cfg := { defaultConfig with
      opcodeMap := { OpcodeMap.default with ledRed := 0x20 } } } : State).cfg.wf = false := by
  decide +kernel

/-- EveryInstructionCompletes. -/
theorem witness_wf : (Instr.connect 1 1).wf State.reset.cfg = true := by decide +kernel

/-- The invariant's hypotheses: reset meets it, and so does a state with a live instance. -/
theorem witness_inv : live1.Inv where
  table  := rfl
  marker := rfl
  count  := rfl
  record := by decide +kernel
  global := .inl rfl
  own    := by decide +kernel

/-- InvariantKeptByEveryStep, MarksOfARunAreKept: a step of such a state, and of a marked one. -/
theorem witness_step_next :
    (∃ t, step { live1 with pending := [.disconnect 0] } = .next t) ∧
    ∃ t, step { live1 with pending := [.modeRead 1], faultG := ⟨true, 0x10⟩, refused := some .notLive } =
      .next t ∧ (⟨true, 0x10⟩ : FaultReg).valid = true := by
  exact ⟨⟨_, rfl⟩, ⟨_, rfl, rfl⟩⟩

/-- OnlyTheTwoFaultsWriteFaultG, ReadOnlyStateIsNeverWritten: a fault from clear. -/
theorem witness_fault :
    ∃ t, exec (.frameStrip []) State.reset = .next t ∧ t.faultG ≠ State.reset.faultG := by
  exact ⟨_, rfl, by decide +kernel⟩

/-- WritersOfTheOtherRegisters: CONNECT with another revision changes every one of them but FAULT. -/
theorem witness_connect_writes :
    ∃ t x y, exec (.connect 1 1) live1 = .next t ∧ live1.insts[1]? = some x ∧ t.insts[1]? = some y ∧
      y.dev ≠ x.dev ∧ y.variant ≠ x.variant ∧ y.live ≠ x.live := by
  refine ⟨_, _, _, rfl, rfl, rfl, ?_, ?_, ?_⟩ <;> decide +kernel

/-- WritersOfTheOtherRegisters, the FAULT clause: CONNECT clears a held fault. -/
theorem witness_connect_clears_fault :
    ∃ t x y, exec (.connect 1 0)
        { live1 with insts := [Inst.powerOn, { Inst.powerOn with fault := ⟨true, 0x10⟩ }] } = .next t ∧
      x = { Inst.powerOn with fault := ⟨true, 0x10⟩ } ∧ t.insts[1]? = some y ∧ y.fault ≠ x.fault := by
  refine ⟨_, _, _, rfl, rfl, rfl, ?_⟩
  decide +kernel

/-- InstancesAreIsolated: an operation that does not name instance 1, and a pair of states that agree on
instance 0 alone. -/
theorem witness_isolated :
    (∃ t, exec (.echo 0) live2 = .next t) ∧ (Instr.echo 0).names ≠ some 1 ∧ AgreeOn 0 live1 live2 ∧
      live1 ≠ live2 := by
  exact ⟨⟨_, rfl⟩, by decide, ⟨rfl, rfl, rfl, rfl⟩, by decide +kernel⟩

/-- OperationsOnDifferentInstancesCommute. -/
theorem witness_commute :
    ∃ a b, exec (.echo 0) live2 = .next a ∧ exec (.connect 1 0) live2 = .next b :=
  ⟨_, _, rfl, rfl⟩

/-- UnnamedOperationsReadOnlyTheRoms, HeldFaultChangesNoLaterOperation. -/
theorem witness_unnamed :
    (Instr.frameScan f1).names = none ∧ Instr.frameScan f1 ≠ .faultRead .global ∧
      State.reset.crcTable = live1.crcTable ∧ State.reset.magic = live1.magic ∧
      State.reset.cfg = live1.cfg ∧ ∃ s', exec (.frameScan f1) State.reset = .next s' :=
  ⟨rfl, by decide, rfl, rfl, rfl, ⟨_, rfl⟩⟩

/-- DeadRegistersAreUnreadable: two states that differ in the registers of an instance not live. -/
theorem witness_dead :
    SameLive live1 { live1 with insts := [connectedInst defaultConfig 0,
      { Inst.powerOn with mode := pulsed, variant := 1 }] } ∧
    ∃ s', exec (.connect 1 0) live1 = .next s' := by
  refine ⟨⟨rfl, rfl, rfl, rfl, ?_⟩, ⟨_, rfl⟩⟩
  exact .cons ⟨rfl, fun _ => rfl⟩ (.cons ⟨rfl, fun h => by cases h⟩ .nil)

end Sys2Proof.Machine.Tests
end

section
/-!
SUPPORT. The decoder reads back what the encoder writes (R78, R81, R82, R86).
-/

namespace Sys2Proof

/-! ## Multi-byte arguments -/

theorem be16_extract (v : BitVec 16) : be16 (v.extractLsb' 8 8) (v.extractLsb' 0 8) = v := by
  ext i hi
  grind [be16]

theorem le32_extract (v : BitVec 32) :
    le32 (v.extractLsb' 0 8) (v.extractLsb' 8 8) (v.extractLsb' 16 8) (v.extractLsb' 24 8) = v := by
  ext i hi
  grind [le32]

@[simp] theorem byteArg_byteArgBytes (a : ByteArg) : byteArg (byteArgBytes a) = a := by
  cases a <;> rfl

@[simp] theorem timeArg_timeArgBytes (a : TimeArg) : timeArg (timeArgBytes a) = a := by
  cases a with
  | missing => rfl
  | time r t => simp [timeArg, timeArgBytes, le32Bytes, le32_extract]

/-- A state byte 0x02 would read back as a pulsing BUZZER, so R84 keeps it out of the other form. -/
theorem buzzerArg_buzzerArgBytes (a : BuzzerArg) (ha : a ≠ .state 0x02) :
    buzzerArg (buzzerArgBytes a) = a := by
  cases a with
  | missing => rfl
  | state v =>
    have hv : v ≠ 0x02#8 := fun h => ha (by rw [h]; rfl)
    simp [buzzerArg, buzzerArgBytes, hv]
  | pulseMissing => rfl
  | pulse c i d => simp [buzzerArg, buzzerArgBytes, be16Bytes, be16_extract]

/-! ## The opcode byte -/

theorem Opcode.mem_all (o : Opcode) : o ∈ Opcode.all := by cases o <;> decide

theorem Config.opcodeMap_wf {c : Config} (h : c.wf = true) : c.opcodeMap.wf = true := by
  simp only [Config.wf, Bool.and_eq_true] at h
  exact h.1

theorem OpcodeMap.byte_injective {m : OpcodeMap} (h : m.wf = true) :
    Function.Injective m.byte := by
  have hn : m.bytes.Nodup := by
    simp only [OpcodeMap.wf, Bool.and_eq_true, decide_eq_true_eq] at h
    exact h.1.1
  intro o o' ho
  exact List.inj_on_of_nodup_map hn o.mem_all o'.mem_all ho

/-- R81: the byte of a name is matched to that name and to no other. -/
theorem OpcodeMap.find_byte {m : OpcodeMap} (h : m.wf = true) (o : Opcode) :
    m.find (m.byte o) = some o := by
  cases hf : m.find (m.byte o) with
  | none => simpa using List.find?_eq_none.mp hf o o.mem_all
  | some o' =>
    have ho : m.byte o' = m.byte o := by simpa using List.find?_some hf
    rw [OpcodeMap.byte_injective h ho]

/-- R82: a byte that is no name's value is matched to none. -/
theorem OpcodeMap.find_eq_none {m : OpcodeMap} {b : Byte} (h : m.bytes.contains b = false) :
    m.find b = none := by
  refine List.find?_eq_none.mpr fun o ho hb => ?_
  have hmem : b ∈ m.bytes := List.mem_map.mpr ⟨o, ho, beq_iff_eq.mp hb⟩
  simp_all

theorem decodePayload_byte {m : OpcodeMap} (h : m.wf = true) (k : Nat) (o : Opcode)
    (args : Bytes) : decodePayload m k (m.byte o :: args) = decodeNamed k args o := by
  simp [decodePayload, OpcodeMap.find_byte h]

theorem decodePayload_unnamed {m : OpcodeMap} {op : Byte} (h : m.bytes.contains op = false)
    (k : Nat) (args : Bytes) : decodePayload m k (op :: args) = .unknown k op := by
  simp [decodePayload, OpcodeMap.find_eq_none h]

/-! ## Encoded commands -/

/-- Everything the encoder can write of a command in range: the byte of a name and arguments that the
name's command reads back, a byte without a name, or nothing. -/
theorem encode_cases {c : Config} {m : OpcodeMap} {i : Instr} {k : Nat} {p : Bytes}
    (hi : i.operandsOk c = true) (hk : i.names = some k) (hp : encode m i = some p) :
    (∃ o args, p = m.byte o :: args ∧ decodeNamed k args o = i) ∨
    (∃ op, i = .unknown k op ∧ p = [op]) ∨
    (i = .emptyPayload k ∧ p = []) := by
  cases i <;> cases hp <;> cases hk
  case echo => exact .inl ⟨.echo, [], rfl, rfl⟩
  case ack => exact .inl ⟨.ack, [], rfl, rfl⟩
  case testMode a =>
    exact .inl ⟨.testMode, byteArgBytes a, rfl, by simp [decodeNamed]⟩
  case setTime a =>
    exact .inl ⟨.setTime, timeArgBytes a, rfl, by simp [decodeNamed]⟩
  case txd => exact .inl ⟨.txd, [], rfl, rfl⟩
  case rxd => exact .inl ⟨.rxd, [], rfl, rfl⟩
  case output => exact .inl ⟨.output, [], rfl, rfl⟩
  case requestToExit => exact .inl ⟨.requestToExit, [], rfl, rfl⟩
  case doorControl => exact .inl ⟨.doorControl, [], rfl, rfl⟩
  case relay => exact .inl ⟨.relay, [], rfl, rfl⟩
  case tamper => exact .inl ⟨.tamper, [], rfl, rfl⟩
  case button => exact .inl ⟨.button, [], rfl, rfl⟩
  case buzzer a =>
    have ha : a ≠ .state 0x02 := by rintro rfl; cases hi
    exact .inl ⟨.buzzer, buzzerArgBytes a, rfl, by simp [decodeNamed, buzzerArg_buzzerArgBytes a ha]⟩
  case ledRed a => exact .inl ⟨.ledRed, byteArgBytes a, rfl, by simp [decodeNamed]⟩
  case ledGreen a => exact .inl ⟨.ledGreen, byteArgBytes a, rfl, by simp [decodeNamed]⟩
  case ledBlue => exact .inl ⟨.ledBlue, [], rfl, rfl⟩
  case wifiCredentials => exact .inl ⟨.wifiCredentials, [], rfl, rfl⟩
  case unknown op => exact .inr (.inl ⟨op, rfl, rfl⟩)
  case emptyPayload => exact .inr (.inr ⟨rfl, rfl⟩)

theorem decodePayload_encode {c : Config} {i : Instr} {k : Nat} {p : Bytes} (hc : c.wf = true)
    (hi : i.wf c = true) (hk : i.names = some k) (hp : encode c.opcodeMap i = some p) :
    decodePayload c.opcodeMap k p = i := by
  have hops : i.operandsOk c = true := by
    simp only [Instr.wf, Bool.and_eq_true] at hi
    exact hi.2
  rcases encode_cases hops hk hp with ⟨o, args, rfl, ho⟩ | ⟨op, rfl, rfl⟩ | ⟨rfl, rfl⟩
  · rw [decodePayload_byte (Config.opcodeMap_wf hc), ho]
  · have hop : c.opcodeMap.bytes.contains op = false := by simpa [Instr.operandsOk] using hops
    exact decodePayload_unnamed hop k []
  · rfl

/-- Settles O3: the encoder's output (`encode_cases`) starts with a byte that `OpcodeMap.find` matches
back, and its arguments read back to the operands. -/
theorem decodeOfEncodeIsTheCommand : Obligations.DecodeOfEncodeIsTheCommand :=
  fun _ _ _ _ hc hi hk hp => decodePayload_encode hc hi hk hp

end Sys2Proof
end

section
/-!
SUPPORT. PARSE is the command its payload decodes to (R160, R161), and a step runs it (R5, R60).
-/

namespace Sys2Proof.Machine

theorem exec_parse (k : Nat) (p : Bytes) (s : State) :
    exec (.parse k p) s = exec (decodePayload s.cfg.opcodeMap k p) s := by
  cases p with
  | nil => rfl
  | cons op args =>
    simp only [exec, execParse, decodePayload]
    cases s.cfg.opcodeMap.find op with
    | none => rfl
    | some o => cases o <;> rfl

theorem step_of_pending {s : State} {i : Instr} {rest : List Instr} (h : s.pending = i :: rest) :
    step s = exec i { s with pending := rest } := by
  simp [step, takePending, h]

theorem step_of_no_pending {s : State} (h : s.pending = []) : step s = .next s := by
  simp [step, takePending, h]

/-- Settles O1: the second clause is the first followed by `exec_parse`. -/
theorem stepRunsTheDecodedInstruction : Obligations.StepRunsTheDecodedInstruction := by
  refine ⟨fun s i rest h => step_of_pending h, fun s k p rest i h hi => ?_,
    fun s h => step_of_no_pending h⟩
  rw [step_of_pending h, exec_parse, ← hi]

end Sys2Proof.Machine
end

section
/-!
SUPPORT. Where frames stand in a buffer: a built frame is a frame (R72, R135 to R138), no frame begins
inside another one's marker, and the scan stops at the lowest frame (R134, R139 to R141).
-/

namespace Sys2Proof.Machine

/-! ## Slices -/

theorem slice_append_middle (a b c : Bytes) {i j : Nat} (hi : i = a.length)
    (hj : j = a.length + b.length) : slice (a ++ b ++ c) i j = b := by
  subst hi hj
  rw [slice, List.append_assoc, List.take_length_add_append, List.drop_left]
  exact List.take_left

theorem getElem?_slice (b : Bytes) {i j n : Nat} (h : i + n < j) : (slice b i j)[n]? = b[i + n]? := by
  simp [slice, h]

/-- Where the marker stands, its three bytes stand (R22). -/
theorem getElem?_of_slice_eq_magicRom {buf : Bytes} {i : Nat} (h : slice buf i (i + 3) = magicRom) :
    buf[i]? = some 0x23 ∧ buf[i + 1]? = some 0x40 ∧ buf[i + 2]? = some 0x21 := by
  have hj (n : Nat) (hn : n < 3) : buf[i + n]? = magicRom[n]? := by
    rw [← h, getElem?_slice buf (by omega)]
  exact ⟨hj 0 (by decide), hj 1 (by decide), hj 2 (by decide)⟩

/-! ## Frames in a buffer -/

/-- A frame is the marker and a candidate that passes the scan's test. -/
theorem frameAt_iff (t magic buf : Bytes) (i n : Nat) :
    FrameAt t magic buf i n ↔
      slice buf i (i + 3) = magic ∧
      ∃ l : Byte, buf[i + 3]? = some l ∧ candidateOk t buf i l.toNat = true ∧ n = l.toNat + 3 := by
  refine and_congr_right fun _ => exists_congr fun l => and_congr_right fun _ => ?_
  rw [candidateOk_iff]
  constructor
  · rintro ⟨h2, rfl, -, hcrc⟩
    have hpos : i + (l.toNat + 3) - 1 = i + 3 + (l.toNat - 1) := by omega
    exact ⟨⟨h2, hpos ▸ hcrc⟩, rfl⟩
  · rintro ⟨⟨h2, hcrc⟩, rfl⟩
    have hpos : i + 3 + (l.toNat - 1) = i + (l.toNat + 3) - 1 := by omega
    rw [hpos] at hcrc
    have hlt := (List.getElem?_eq_some_iff.mp hcrc).1
    exact ⟨h2, rfl, by omega, hcrc⟩

theorem FrameAt.bounds {t magic buf : Bytes} {i n : Nat} (h : FrameAt t magic buf i n) :
    5 ≤ n ∧ i + n ≤ buf.length := by
  obtain ⟨-, l, -, h2, rfl, hle, -⟩ := h
  exact ⟨by omega, hle⟩

/-- At one offset there is at most one frame: its LENGTH byte gives its length. -/
theorem FrameAt.length_unique {t magic buf : Bytes} {i n n' : Nat} (h : FrameAt t magic buf i n)
    (h' : FrameAt t magic buf i n') : n = n' := by
  obtain ⟨-, l, hl, -, rfl, -⟩ := h
  obtain ⟨-, l', hl', -, rfl, -⟩ := h'
  rw [Option.some.inj (hl.symm.trans hl')]

/-- The marker does not overlap itself, so the scan may resume three bytes after it (R140). -/
theorem FrameAt.not_inside_marker {t buf : Bytes} {i o n : Nat} (h : FrameAt t magicRom buf o n)
    (hi : slice buf i (i + 3) = magicRom) (hlt : i < o) : i + 3 ≤ o := by
  obtain ⟨-, h1, h2⟩ := getElem?_of_slice_eq_magicRom hi
  obtain ⟨h0, -, -⟩ := getElem?_of_slice_eq_magicRom h.1
  by_contra hge
  obtain rfl | rfl : o = i + 1 ∨ o = i + 2 := by omega
  · exact absurd (h0.symm.trans h1) (by decide)
  · exact absurd (h0.symm.trans h2) (by decide)

/-! ## The scan -/

/-- From any position at or below it, and with a pass for every byte left, the scan stops at the lowest
frame. -/
theorem scanLoop_eq_some {t buf : Bytes} {o m : Nat} (hf : FrameAt t magicRom buf o m) :
    ∀ n i : Nat, i ≤ o → buf.length ≤ i + n →
      (∀ o' m', i ≤ o' → o' < o → ¬ FrameAt t magicRom buf o' m') →
      scanLoop t magicRom buf n i = some (o, m) := by
  obtain ⟨hm, hle⟩ := hf.bounds
  intro n
  induction n with
  | zero => intro i _ _ _; omega
  | succ n ih =>
    intro i hi hn hlow
    have hl : buf[i + 3]? = some buf[i + 3] := List.getElem?_eq_getElem (by omega)
    simp only [scanLoop, hl]
    split_ifs with hmagic hok
    · -- a frame at `i`: the lowest one
      have hi' : FrameAt t magicRom buf i (buf[i + 3].toNat + 3) :=
        (frameAt_iff ..).mpr ⟨hmagic, _, hl, hok, rfl⟩
      obtain rfl : i = o := by
        by_contra hne
        exact hlow i _ le_rfl (by omega) hi'
      rw [hi'.length_unique hf]
    · -- a false candidate: the lowest frame begins after its marker
      have hne : i ≠ o := by
        rintro rfl
        obtain ⟨-, l, hl', hok', -⟩ := (frameAt_iff ..).mp hf
        rw [Option.some.inj (hl.symm.trans hl')] at hok
        exact hok hok'
      have h3 := hf.not_inside_marker hmagic (by omega)
      exact ih (i + 3) h3 (by omega) fun o' m' ho' => hlow o' m' (by omega)
    · -- no marker at `i`
      have hne : i ≠ o := by
        rintro rfl
        exact hmagic hf.1
      exact ih (i + 1) (by omega) (by omega) fun o' m' ho' => hlow o' m' (by omega)

theorem scanFrame_eq_some {t buf : Bytes} {o m : Nat} (hf : FrameAt t magicRom buf o m)
    (hlow : ∀ o' m', o' < o → ¬ FrameAt t magicRom buf o' m') :
    scanFrame t magicRom buf = some (o, m) :=
  scanLoop_eq_some hf buf.length 0 (by omega) (by omega) fun o' m' _ => hlow o' m'

/-! ## Built frames -/

/-- R72: a built frame with its payload set apart from its header and its checksum. -/
theorem buildFrame_eq (t magic p : Bytes) :
    buildFrame t magic p = (magic ++ [BitVec.ofNat 8 (p.length + 2)]) ++ p ++
      [crc8 t (magic ++ [BitVec.ofNat 8 (p.length + 2)] ++ p)] := rfl

/-- R123: the payload is what FRAME_STRIP cuts out of its frame. -/
theorem slice_buildFrame (t p : Bytes) :
    slice (buildFrame t magicRom p) 4 ((buildFrame t magicRom p).length - 1) = p := by
  rw [buildFrame_length, buildFrame_eq]
  exact slice_append_middle _ _ _ rfl (by simp [magicRom]; omega)

/-- A built frame stands where it is put. -/
theorem frameAt_buildFrame (t g p x : Bytes) (hp : p.length ≤ 253) :
    FrameAt t magicRom (g ++ buildFrame t magicRom p ++ x) g.length (p.length + 5) := by
  have hl : (BitVec.ofNat 8 (p.length + 2)).toNat = p.length + 2 := by simp; omega
  rw [buildFrame_eq]
  generalize BitVec.ofNat 8 (p.length + 2) = l at hl
  generalize hh : magicRom ++ [l] ++ p = h
  have hlen : h.length = p.length + 4 := by subst hh; simp [magicRom]
  refine ⟨?_, l, ?_, by omega, by omega, ?_, ?_⟩
  · have : g ++ (h ++ [crc8 t h]) ++ x = g ++ magicRom ++ ([l] ++ p ++ [crc8 t h] ++ x) := by
      simp [← hh]
    rw [this]
    exact slice_append_middle _ _ _ rfl rfl
  · simp [← hh, magicRom]
  · simp [hlen]
    omega
  · have hcrc : g.length + (p.length + 5) - 1 = (g ++ h).length := by simp [hlen]
    have hbuf : g ++ (h ++ [crc8 t h]) ++ x = g ++ h ++ ([crc8 t h] ++ x) := by simp
    rw [hcrc, hbuf, slice_append_middle g h _ rfl (by simp)]
    simp

end Sys2Proof.Machine
end

section
/-!
SUPPORT. RECV of a sent command (R4, R87, R143).
-/

namespace Sys2Proof.Machine

/-- What is done on one register set (`exec_named`) does not depend on the last return, which it writes. -/
theorem exec_response {i : Instr} {k : Nat} (h : i.names = some k) (s : State)
    (r : Option Response) : exec i { s with response := r } = exec i s := by
  obtain ⟨F, hF⟩ := exec_named i k h
  rw [hF, hF]
  cases F s.crcTable s.magic s.cfg s.insts[k]? <;> rfl

/-- FRAME_ENCODE that answers a frame had a payload that fits, and the frame is the built one. -/
theorem frameEncode_answer {s t : State} {p f : Bytes} {rs : ResultState} (hc : s.cfg.wf = true)
    (h : exec (.frameEncode p) s = .next t) (ht : t.response = some (.ret rs (.bytes f))) :
    p.length ≤ 253 ∧ f = buildFrame s.crcTable s.magic p := by
  simp only [exec, execFrameEncode, onConfig_of_wf hc] at h
  split at h <;> cases h
  · simp at ht
  · simp only [finish_response, Option.some.injEq, Response.ret.injEq, Output.bytes.injEq] at ht
    exact ⟨by omega, ht.2.symm⟩

theorem exec_frameScan_of_found {s : State} {buf : Bytes} {o n : Nat} (hc : s.cfg.wf = true)
    (h : scanFrame s.crcTable s.magic buf = some (o, n)) :
    exec (.frameScan buf) s = .next (finish s .ok (.found o n)) := by
  simp [exec, execFrameScan, onConfig_of_wf hc, h]

theorem exec_frameStrip_of_length {s : State} {f : Bytes} (hc : s.cfg.wf = true)
    (h : 5 ≤ f.length) :
    exec (.frameStrip f) s = .next (finish s .ok (.bytes (slice f 4 (f.length - 1)))) := by
  simp [exec, execFrameStrip, onConfig_of_wf hc, Nat.not_lt.mpr h]

/-- R87: where the scan finds a frame, RECV is PARSE of the payload stripped from it. -/
theorem recv_of_found {s : State} {buf f : Bytes} {o n : Nat} (k : Nat) (hc : s.cfg.wf = true)
    (h : scanFrame s.crcTable s.magic buf = some (o, n)) (hf : slice buf o (o + n) = f)
    (hlen : 5 ≤ f.length) :
    recv k buf s = exec (.parse k (slice f 4 (f.length - 1))) s := by
  have hstrip := exec_frameStrip_of_length (s := finish s .ok (.found o n)) hc hlen
  generalize slice f 4 (f.length - 1) = p at hstrip ⊢
  unfold recv
  simp only [exec_frameScan_of_found hc h, finish_response, hf, hstrip]
  exact exec_response (i := .parse k p) (k := k) rfl s _

/-- R143: RECV of a payload's frame after bytes that begin no frame is PARSE of the payload. -/
theorem recv_buildFrame {s : State} {g p x : Bytes} (k : Nat) (hc : s.cfg.wf = true)
    (hm : s.magic = magicRom) (hp : p.length ≤ 253)
    (hlow : ∀ o n, o < g.length →
      ¬ FrameAt s.crcTable magicRom (g ++ buildFrame s.crcTable magicRom p ++ x) o n) :
    recv k (g ++ buildFrame s.crcTable magicRom p ++ x) s = exec (.parse k p) s := by
  have hlen : (buildFrame s.crcTable magicRom p).length = p.length + 5 := by
    rw [buildFrame_length]
    simp [magicRom]
    omega
  have hscan : scanFrame s.crcTable s.magic (g ++ buildFrame s.crcTable magicRom p ++ x) =
      some (g.length, p.length + 5) := by
    rw [hm]
    exact scanFrame_eq_some (frameAt_buildFrame s.crcTable g p x hp) hlow
  have hslice := slice_append_middle g (buildFrame s.crcTable magicRom p) x
    (j := g.length + (p.length + 5)) rfl (by rw [hlen])
  rw [recv_of_found k hc hscan hslice (by omega), slice_buildFrame]

/-- Settles O58: the scan finds the frame (`scanFrame_eq_some`), STRIP gives the payload back, and PARSE of
it is the command (`decodePayload_encode`). -/
theorem receiveRunsTheSentCommand : Obligations.ReceiveRunsTheSentCommand := by
  intro s i k p g f x hc hm hi hk hp _ hf hlow
  obtain ⟨hlen, rfl⟩ := frameEncode_answer hc hf rfl
  rw [hm] at hlow ⊢
  rw [recv_buildFrame k hc hm hlen hlow, exec_parse, decodePayload_encode hc hi hk hp]

end Sys2Proof.Machine
end

section
/-!
SUPPORT. How an operation can end and what it can write, said once for all instructions (R215, R220, R224,
R27 to R33): `exec_ends` answers one of five endings, and the only one that writes a register set does it as
`RegWrite` lists. The facts on what an instruction leaves unchanged are case analyses of these two.
-/

namespace Sys2Proof.Machine

/-! ## Writes -/

/-- The command `i` on `k` turns MODE[k] from the first record into the second (R165 to R171). -/
inductive WritesMode (k : Nat) : Instr → Mode → Mode → Prop
  | echo (m : Mode) : WritesMode k (.echo k) m { m with echoEn := true }
  | testMode (v : Byte) (m : Mode) : WritesMode k (.testMode k (.byte v)) m { m with testLevel := v }
  | ledRed (v : Byte) (m : Mode) : WritesMode k (.ledRed k (.byte v)) m { m with ledRed := v }
  | ledGreen (v : Byte) (m : Mode) : WritesMode k (.ledGreen k (.byte v)) m { m with ledGreen := v }
  | buzzerState (v : Byte) (m : Mode) : WritesMode k (.buzzer k (.state v)) m { m with buzState := v }
  | buzzerPulse (c i d : BitVec 16) (m : Mode) : WritesMode k (.buzzer k (.pulse c i d)) m
      { m with buzState := 0x02, buzCount := c, buzInterval := i, buzDuration := d }
  | setTime (r : Byte) (t : BitVec 32) (m : Mode) :
      WritesMode k (.setTime k (.time r t)) m { m with clock := t }

/-- Instruction `i` turns the register set of `k` from the first into the second: everything that writes one of
its registers. -/
inductive RegWrite (c : Config) (k : Nat) : Instr → Inst → Inst → Prop
  | connect (v : Nat) (x : Inst) (hv : v < c.variants.length) :
      RegWrite c k (.connect k v) x (connectedInst c v)
  | disconnect (x : Inst) (hl : x.live = true) : RegWrite c k (.disconnect k) x { x with live := false }
  | devstateLoad (r : DevRecord) (x : Inst) (hl : x.live = true) (hr : r.isOf c x.variant = true) :
      RegWrite c k (.devstateLoad k r) x { x with dev := r }
  | command (i : Instr) (x : Inst) (m : Mode) (hl : x.live = true) (hw : WritesMode k i x.mode m) :
      RegWrite c k i x { x with mode := m }
  | parse (p : Bytes) (x : Inst) (m : Mode) (hl : x.live = true)
      (hw : WritesMode k (decodePayload c.opcodeMap k p) x.mode m) :
      RegWrite c k (.parse k p) x { x with mode := m }

theorem WritesMode.names {k : Nat} {i : Instr} {m m' : Mode} (h : WritesMode k i m m') :
    i.names = some k := by cases h <;> rfl

theorem RegWrite.names {c : Config} {k : Nat} {i : Instr} {x y : Inst} (h : RegWrite c k i x y) :
    i.names = some k := by
  cases h
  case command hw => exact hw.names
  all_goals rfl

/-! ## Endings -/

/-- How instruction `i` can end in state `s`, with the state it leaves. -/
inductive Ends (i : Instr) (s : State) : State → Prop
  | refused (r : RefusalCause) : Ends i s (refuse s r)
  | answered (rs : ResultState) (o : Output) : Ends i s (finish s rs o)
  | payloadTooLong (p : Bytes) (hi : i = .frameEncode p) (hp : 253 < p.length) :
      Ends i s (raise s .global .payloadTooLong p.length)
  | stripShort (f : Bytes) (hi : i = .frameStrip f) (hf : f.length < 5) :
      Ends i s (raise s .global .stripShort f.length)
  | wrote (k : Nat) (x y : Inst) (o : Output) (hx : s.insts[k]? = some x)
      (hw : RegWrite s.cfg k i x y) : Ends i s (finish (s.setInst k y) .ok o)

/-- `i` is a command on `k`, and what it commits to MODE[k] is as `WritesMode` lists. -/
def RunsCommand (k : Nat) (i : Instr) : Prop :=
  ∃ f : Mode → Option Mode, (∀ s : State, exec i s = command s k f) ∧
    ∀ m m', f m = some m' → m' = m ∨ WritesMode k i m m'

theorem runsCommand_noEffect {k : Nat} {i : Instr} (h : ∀ s : State, exec i s = command s k some) :
    RunsCommand k i :=
  ⟨some, h, fun _ _ hm => .inl (Option.some.inj hm).symm⟩

/-- R70: what has a payload names the `k` PARSE is given. -/
theorem names_of_encode {m : OpcodeMap} {i : Instr} {p : Bytes} (hp : encode m i = some p) :
    ∃ k, i.names = some k := by
  cases i <;> cases hp <;> exact ⟨_, rfl⟩

/-- Every instruction that has a payload is a command. -/
theorem runsCommand_of_encode {m : OpcodeMap} {i : Instr} {k : Nat} {p : Bytes}
    (hk : i.names = some k) (hp : encode m i = some p) : RunsCommand k i := by
  cases i <;> cases hp <;> cases hk
  case echo =>
    refine ⟨_, fun s => show execEcho k s = _ from rfl, fun m m' h => ?_⟩
    cases h
    exact .inr (.echo m)
  case testMode a =>
    refine ⟨_, fun s => show execTestMode k a s = _ from rfl, fun m m' h => ?_⟩
    cases a <;> cases h
    exact .inr (.testMode _ m)
  case setTime a =>
    refine ⟨_, fun s => show execSetTime k a s = _ from rfl, fun m m' h => ?_⟩
    cases a <;> cases h
    exact .inr (.setTime _ _ m)
  case buzzer a =>
    refine ⟨_, fun s => show execBuzzer k a s = _ from rfl, fun m m' h => ?_⟩
    cases a <;> cases h
    · exact .inr (.buzzerState _ m)
    · exact .inr (.buzzerPulse _ _ _ m)
  case ledRed a =>
    refine ⟨_, fun s => show execLedRed k a s = _ from rfl, fun m m' h => ?_⟩
    cases a <;> cases h
    exact .inr (.ledRed _ m)
  case ledGreen a =>
    refine ⟨_, fun s => show execLedGreen k a s = _ from rfl, fun m m' h => ?_⟩
    cases a <;> cases h
    exact .inr (.ledGreen _ m)
  case emptyPayload => exact ⟨fun _ => none, fun _ => rfl, fun _ _ h => by cases h⟩
  all_goals exact runsCommand_noEffect fun _ => rfl

theorem names_decodePayload (m : OpcodeMap) (k : Nat) (p : Bytes) :
    (decodePayload m k p).names = some k := by
  cases p with
  | nil => rfl
  | cons op args =>
    simp only [decodePayload]
    cases m.find op with
    | none => rfl
    | some o => cases o <;> rfl

theorem encode_decodePayload_isSome (m : OpcodeMap) (k : Nat) (p : Bytes) :
    ∃ q, encode m (decodePayload m k p) = some q := by
  cases p with
  | nil => exact ⟨_, rfl⟩
  | cons op args =>
    simp only [decodePayload]
    cases m.find op with
    | none => exact ⟨_, rfl⟩
    | some o => cases o <;> exact ⟨_, rfl⟩

/-- What PARSE decodes is a command on the `k` PARSE names. -/
theorem runsCommand_decodePayload (m : OpcodeMap) (k : Nat) (p : Bytes) :
    RunsCommand k (decodePayload m k p) :=
  have ⟨_, hq⟩ := encode_decodePayload_isSome m k p
  runsCommand_of_encode (names_decodePayload m k p) hq

theorem command_ends {i : Instr} {s t : State} {k : Nat} {f : Mode → Option Mode}
    (hf : ∀ x m, x.live = true → f x.mode = some m →
      m = x.mode ∨ RegWrite s.cfg k i x { x with mode := m })
    (h : command s k f = .next t) : Ends i s t := by
  rcases command_next h with ⟨r, rfl⟩ | ⟨x, hx, ⟨m, hm, rfl⟩ | ⟨-, rfl⟩⟩
  · exact .refused r
  · obtain ⟨hx, hl⟩ := (live?_eq_some_iff s k x).mp hx
    rcases hf x m hl hm with rfl | hw
    · rw [show ({ x with mode := x.mode } : Inst) = x from rfl, setInst_self s k x hx]
      exact .answered _ _
    · exact .wrote k x _ _ hx hw
  · exact .answered _ _

theorem connect_ends {s t : State} {k v : Nat} (h : exec (.connect k v) s = .next t) :
    Ends (.connect k v) s t := by
  rcases onConfig_next h with ⟨-, rfl⟩ | ⟨-, hb⟩
  · exact .refused _
  split at hb
  case isFalse => cases hb
  split at hb
  case isFalse => cases hb
  case isTrue hv =>
    cases hb
    cases hx : s.insts[k]? with
    | some x => exact .wrote k x _ _ hx (.connect v x hv)
    | none =>
      have hset : s.setInst k (connectedInst s.cfg v) = s := by
        simp [State.setInst, List.set_eq_of_length_le (List.getElem?_eq_none_iff.mp hx)]
      rw [hset]
      exact .answered _ _

theorem disconnect_ends {s t : State} {k : Nat} (h : exec (.disconnect k) s = .next t) :
    Ends (.disconnect k) s t := by
  rcases onConfig_next h with ⟨-, rfl⟩ | ⟨-, hb⟩
  · exact .refused _
  cases hx : s.live? k with
  | none =>
    rw [hx] at hb
    cases hb
    exact .answered _ _
  | some x =>
    rw [hx] at hb
    cases hb
    obtain ⟨hx, hl⟩ := (live?_eq_some_iff s k x).mp hx
    exact .wrote k x _ _ hx (.disconnect x hl)

theorem devstateLoad_ends {s t : State} {k : Nat} {r : DevRecord}
    (h : exec (.devstateLoad k r) s = .next t) : Ends (.devstateLoad k r) s t := by
  rcases onLive_next h with ⟨q, rfl⟩ | ⟨x, -, hx, hb⟩
  · exact .refused q
  split at hb <;> cases hb
  · obtain ⟨hx, hl⟩ := (live?_eq_some_iff s k x).mp hx
    exact .wrote k x _ _ hx (.devstateLoad r x hl ‹_›)
  · exact .refused _

/-- An operation that only answers from the registers of a live `k`. -/
theorem onLive_finish_ends {i : Instr} {s t : State} {k : Nat} {o : Inst → Output}
    (h : (onLive s k fun x => .next (finish s .ok (o x))) = .next t) : Ends i s t := by
  rcases onLive_next h with ⟨q, rfl⟩ | ⟨x, -, -, hb⟩
  · exact .refused q
  · cases hb
    exact .answered _ _

theorem exec_ends_named {i : Instr} {s t : State} {k : Nat} (hk : i.names = some k)
    (h : exec i s = .next t) : Ends i s t := by
  cases hp : encode s.cfg.opcodeMap i with
  | some p =>
    obtain ⟨f, hf, hw⟩ := runsCommand_of_encode hk hp
    rw [hf] at h
    exact command_ends (fun x m hl hm => (hw _ _ hm).imp_right (.command i x m hl)) h
  | none =>
    cases i <;> simp only [encode, reduceCtorEq] at hp
    case parse k p =>
      obtain ⟨f, hf, hw⟩ := runsCommand_decodePayload s.cfg.opcodeMap k p
      rw [exec_parse, hf] at h
      exact command_ends (fun x m hl hm => (hw _ _ hm).imp_right (.parse p x m hl)) h
    case buildAck => exact onLive_finish_ends h
    case modeRead => exact onLive_finish_ends h
    case faultRead sel =>
      cases sel with
      | global => cases hk
      | ofInst k => exact onLive_finish_ends h
    case devstateLoad => exact devstateLoad_ends h
    case connect => exact connect_ends h
    case disconnect => exact disconnect_ends h
    all_goals cases hk

/-- Every instruction that completes ends in one of the five ways. -/
theorem exec_ends {i : Instr} {s t : State} (h : exec i s = .next t) : Ends i s t := by
  cases hk : i.names with
  | some k => exact exec_ends_named hk h
  | none =>
    rcases exec_unnamed hk h with ⟨r, rfl⟩ | ⟨rs, o, rfl⟩ | ⟨p, hi, hp, rfl⟩ | ⟨f, hi, hf, rfl⟩
    · exact .refused r
    · exact .answered rs o
    · exact .payloadTooLong p hi hp
    · exact .stripShort f hi hf

/-- A step does nothing, or ends as the oldest issued operation can. -/
theorem step_ends {s t : State} (h : step s = .next t) :
    t = s ∨ ∃ i rest, Ends i { s with pending := rest } t := by
  cases hp : s.pending with
  | nil =>
    rw [step_of_no_pending hp] at h
    cases h
    exact .inl rfl
  | cons i rest =>
    rw [step_of_pending hp] at h
    exact .inr ⟨i, rest, exec_ends h⟩

end Sys2Proof.Machine
end

section
/-!
SUPPORT. What every instruction leaves unchanged, and which registers it can change (R20 to R22, R27 to R33,
R37, R221): read off its ending.
-/

namespace Sys2Proof.Machine

/-! ## The registers outside the instances -/

/-- The state fields no instruction writes. -/
theorem Ends.frame {i : Instr} {s t : State} (h : Ends i s t) :
    t.crcTable = s.crcTable ∧ t.magic = s.magic ∧ t.cfg = s.cfg ∧ t.pending = s.pending ∧
    t.insts.length = s.insts.length := by
  cases h <;> simp

/-- FAULT_G is kept, or was clear and holds the code of one of the two faults. -/
theorem Ends.faultG {i : Instr} {s t : State} (h : Ends i s t) :
    t.faultG = s.faultG ∨ s.faultG.valid = false ∧
      ((∃ p, i = .frameEncode p ∧ 253 < p.length ∧ t.faultG = ⟨true, FaultCode.payloadTooLong.code⟩) ∨
       (∃ f, i = .frameStrip f ∧ f.length < 5 ∧ t.faultG = ⟨true, FaultCode.stripShort.code⟩)) := by
  cases h
  case payloadTooLong p hi hp =>
    cases hv : s.faultG.valid
    · exact .inr ⟨rfl, .inl ⟨p, hi, hp, record_of_clear _ hv⟩⟩
    · exact .inl (record_of_valid _ hv)
  case stripShort f hi hf =>
    cases hv : s.faultG.valid
    · exact .inr ⟨rfl, .inr ⟨f, hi, hf, record_of_clear _ hv⟩⟩
    · exact .inl (record_of_valid _ hv)
  all_goals exact .inl rfl

theorem Ends.keeps_held_fault {i : Instr} {s t : State} (h : Ends i s t) (hv : s.faultG.valid = true) :
    t.faultG = s.faultG := by
  rcases h.faultG with hg | ⟨hg, -⟩
  · exact hg
  · rw [hg] at hv
    cases hv

theorem Ends.keeps_mark {i : Instr} {s t : State} {r : RefusalCause} (h : Ends i s t)
    (hr : s.refused = some r) : t.refused = some r := by
  cases h
  case refused q => exact refuse_keeps hr q
  all_goals exact hr

/-! ## One register set -/

/-- A register set changes only by one of the writes listed in `RegWrite`. -/
theorem Ends.inst {i : Instr} {s t : State} {k : Nat} {x y : Inst} (h : Ends i s t)
    (hx : s.insts[k]? = some x) (hy : t.insts[k]? = some y) : y = x ∨ RegWrite s.cfg k i x y := by
  cases h
  case wrote j x' y' o hx' hw =>
    by_cases hj : j = k
    · subst hj
      obtain rfl : x' = x := Option.some.inj (hx'.symm.trans hx)
      obtain ⟨hj, -⟩ := List.getElem?_eq_some_iff.mp hx
      obtain rfl : y' = y := by simpa [hj] using hy
      exact .inr hw
    · exact .inl (by simpa [List.getElem?_set_ne hj, hx] using hy.symm)
  all_goals exact .inl (Option.some.inj (hy.symm.trans hx))

theorem Ends.inst_of_not_named {i : Instr} {s t : State} {k : Nat} (h : Ends i s t)
    (hk : i.names ≠ some k) : t.insts[k]? = s.insts[k]? := by
  cases h
  case wrote j x y o _ hw =>
    have hj : j ≠ k := by
      rintro rfl
      exact hk hw.names
    exact List.getElem?_set_ne hj
  all_goals rfl

theorem Ends.exists_inst {i : Instr} {s t : State} {k : Nat} {x : Inst} (h : Ends i s t)
    (hx : s.insts[k]? = some x) : ∃ y, t.insts[k]? = some y := by
  obtain ⟨-, -, -, -, hlen⟩ := h.frame
  obtain ⟨hk, -⟩ := List.getElem?_eq_some_iff.mp hx
  exact ⟨_, List.getElem?_eq_getElem (hlen ▸ hk)⟩

/-! ## MODE -/

theorem WritesMode.writer {k : Nat} {i : Instr} {m m' : Mode} (h : WritesMode k i m m') :
    i = .echo k ∨ (∃ a, i = .testMode k a) ∨ (∃ a, i = .ledRed k a) ∨ (∃ a, i = .ledGreen k a) ∨
    (∃ a, i = .buzzer k a) ∨ ∃ a, i = .setTime k a := by
  cases h <;> simp

theorem WritesMode.keeps_echoEn {k : Nat} {i : Instr} {m m' : Mode} (h : WritesMode k i m m')
    (he : m.echoEn = true) : m'.echoEn = true := by
  cases h
  case echo => rfl
  all_goals exact he

theorem WritesMode.clock {k : Nat} {i : Instr} {m m' : Mode} (h : WritesMode k i m m') :
    m'.clock = m.clock ∨ ∃ a, i = .setTime k a := by
  cases h
  case setTime => exact .inr ⟨_, rfl⟩
  all_goals exact .inl rfl

/-! ## The statements -/

/-- Settles O47: no ending writes them (`Ends.frame`). -/
theorem readOnlyStateIsNeverWritten : Obligations.ReadOnlyStateIsNeverWritten :=
  fun _ _ _ h => (exec_ends h).frame

/-- Settles O48: an ending that does not keep FAULT_G is one of the two faults (`Ends.faultG`). -/
theorem onlyTheTwoFaultsWriteFaultG : Obligations.OnlyTheTwoFaultsWriteFaultG :=
  fun _ _ _ h hne => (exec_ends h).faultG.resolve_left hne

/-- Settles O49: of the listed writes, DISCONNECT and DEVSTATE_LOAD leave MODE as it is. -/
theorem onlyParseAndConnectWriteMode : Obligations.OnlyParseAndConnectWriteMode := by
  intro s t i k x y h hx hy hne
  rcases (exec_ends h).inst hx hy with rfl | hw
  · exact absurd rfl hne
  · cases hw
    case connect v _ => exact .inl ⟨v, rfl⟩
    case parse p _ _ _ => exact .inr (.inl ⟨p, rfl⟩)
    case command hw => exact .inr (.inr hw.writer)
    all_goals exact absurd rfl hne

/-- Settles O50: a command that writes MODE sets ECHO_EN or keeps it (`WritesMode.keeps_echoEn`). -/
theorem echoEnableStaysUntilConnect : Obligations.EchoEnableStaysUntilConnect := by
  intro s t i k x h hx he hc
  obtain ⟨y, hy⟩ := (exec_ends h).exists_inst hx
  refine ⟨y, hy, ?_⟩
  rcases (exec_ends h).inst hx hy with rfl | hw
  · exact he
  · cases hw
    case connect v _ => exact absurd rfl (hc v)
    case parse hw => exact hw.keeps_echoEn he
    case command hw => exact hw.keeps_echoEn he
    all_goals exact he

/-- Settles O51: PARSE changes CLOCK as the command its payload decodes to. -/
theorem clockChangesOnlyBySetTime : Obligations.ClockChangesOnlyBySetTime := by
  intro s t i k x y h hx hy hne
  rcases (exec_ends h).inst hx hy with rfl | hw
  · exact absurd rfl hne
  · cases hw
    case connect v _ => exact .inl ⟨v, rfl⟩
    case parse p _ _ hw =>
      obtain ⟨a, ha⟩ := hw.clock.resolve_left hne
      exact .inr (.inr ⟨p, a, rfl, ha⟩)
    case command hw => exact .inr (.inl (hw.clock.resolve_left hne))
    all_goals exact absurd rfl hne

/-- Settles O52: each kind of write beside CONNECT changes one register only. -/
theorem writersOfTheOtherRegisters : Obligations.WritersOfTheOtherRegisters := by
  intro s t i k x y h hx hy
  rcases (exec_ends h).inst hx hy with rfl | hw
  · simp
  · cases hw <;> simp

/-- Settles O44: an ending keeps a held fault and a mark, so a run with either is not successful after it. -/
theorem marksOfARunAreKept : Obligations.MarksOfARunAreKept := by
  intro s t h
  have hfault : s.faultedRun = true → t.faultG = s.faultG := by
    rcases step_ends h with rfl | ⟨i, rest, he⟩
    · exact fun _ => rfl
    · exact he.keeps_held_fault
  have hmark : ∀ r, s.refused = some r → t.refused = some r := by
    rcases step_ends h with rfl | ⟨i, rest, he⟩
    · exact fun _ hr => hr
    · exact fun r => he.keeps_mark
  refine ⟨hfault, hmark, fun ht => ?_⟩
  simp only [State.successful, Bool.and_eq_true, Bool.not_eq_true'] at ht ⊢
  obtain ⟨htf, htr⟩ := ht
  constructor
  · cases hs : s.faultedRun with
    | false => rfl
    | true =>
      rw [State.faultedRun, hfault hs] at htf
      exact hs.symm.trans htf
  · cases hr : s.refused with
    | none => simp [State.refusedRun, hr]
    | some r => simp [State.refusedRun, hmark r hr] at htr

end Sys2Proof.Machine
end

section
/-!
SUPPORT. Power-on meets the invariant and every step keeps it (R20 to R22, R29, R31, R32, R38, R221).
-/

namespace Sys2Proof.Machine

/-! ## Power-on -/

theorem live?_powerOn (c : Config) (k : Nat) : (State.powerOn c).live? k = none := by
  rw [live?_eq_none_iff]
  intro x hx
  obtain rfl := List.eq_of_mem_replicate (List.mem_of_getElem? hx)
  rfl

/-- Settles O37: the register sets of power-on are all not live (`live?_powerOn`). -/
theorem powerOnState : Obligations.PowerOnState :=
  ⟨rfl, fun c => ⟨rfl, rfl, rfl, live?_powerOn c, List.length_replicate, rfl⟩⟩

theorem powerOn_inv (c : Config) : (State.powerOn c).Inv where
  table  := rfl
  marker := rfl
  count  := List.length_replicate
  record := by
    intro x hx hl
    obtain rfl := List.eq_of_mem_replicate hx
    cases hl
  global := .inl rfl
  own := by
    intro x hx
    obtain rfl := List.eq_of_mem_replicate hx
    rfl

/-- Settles O45: power-on meets the invariant under every configuration. -/
theorem invariantHoldsAtReset : Obligations.InvariantHoldsAtReset := powerOn_inv defaultConfig

/-! ## One register set -/

/-- What the invariant asks of one register set. -/
structure Inst.Inv (c : Config) (x : Inst) : Prop where
  record : x.live = true → x.dev.isOf c x.variant = true
  own    : x.fault = FaultReg.clear

/-- R240: the zero record CONNECT writes is one of its revision. -/
theorem zeroRecord_isOf {c : Config} {v : Nat} (hv : v < c.variants.length) :
    (zeroRecord c v).isOf c v = true := by
  have hw : DevField.width ∘ FieldWidth.zero = id := by
    funext w
    cases w <;> rfl
  simp [DevRecord.isOf, zeroRecord, List.getElem?_eq_getElem hv, hw]

theorem RegWrite.keeps_inv {c : Config} {k : Nat} {i : Instr} {x y : Inst} (h : RegWrite c k i x y)
    (hx : x.Inv c) : y.Inv c := by
  cases h
  case connect v hv => exact ⟨fun _ => zeroRecord_isOf hv, rfl⟩
  case disconnect => exact ⟨nofun, hx.own⟩
  case devstateLoad r _ hr => exact ⟨fun _ => hr, hx.own⟩
  case command => exact ⟨hx.record, hx.own⟩
  case parse => exact ⟨hx.record, hx.own⟩

theorem Ends.keeps_inst_inv {i : Instr} {s t : State} (h : Ends i s t)
    (hs : ∀ x ∈ s.insts, x.Inv s.cfg) : ∀ y ∈ t.insts, y.Inv s.cfg := by
  cases h
  case wrote k x y o hx hw =>
    intro z hz
    rcases List.mem_or_eq_of_mem_set hz with hz | rfl
    · exact hs z hz
    · exact hw.keeps_inv (hs x (List.mem_of_getElem? hx))
  all_goals exact hs

/-! ## Every step -/

theorem Ends.keeps_legal {i : Instr} {s t : State} (h : Ends i s t) (hs : s.faultG.Legal) :
    t.faultG.Legal := by
  rcases h.faultG with hg | ⟨-, ⟨_, -, -, hg⟩ | ⟨_, -, -, hg⟩⟩
  · rwa [hg]
  · exact .inr (.inl hg)
  · exact .inr (.inr hg)

theorem Ends.keeps_inv {i : Instr} {s t : State} (h : Ends i s t) (hs : s.Inv) : t.Inv := by
  obtain ⟨htable, hmagic, hcfg, -, hlen⟩ := h.frame
  have hinsts := h.keeps_inst_inv fun x hx => ⟨hs.record x hx, hs.own x hx⟩
  rw [← hcfg] at hinsts
  exact {
    table  := htable.trans hs.table
    marker := hmagic.trans hs.marker
    count  := by rw [hlen, hcfg, hs.count]
    record := fun y hy => (hinsts y hy).record
    global := h.keeps_legal hs.global
    own    := fun y hy => (hinsts y hy).own }

theorem State.Inv.pending {s : State} (hs : s.Inv) (l : List Instr) :
    State.Inv { s with pending := l } :=
  ⟨hs.table, hs.marker, hs.count, hs.record, hs.global, hs.own⟩

/-- Settles O46: a step ends as an instruction can (`step_ends`), and every ending keeps the invariant. -/
theorem invariantKeptByEveryStep : Obligations.InvariantKeptByEveryStep := by
  intro s t hs h
  rcases step_ends h with rfl | ⟨i, rest, he⟩
  · exact ⟨hs, rfl⟩
  · obtain ⟨-, -, hcfg, -, -⟩ := he.frame
    exact ⟨he.keeps_inv (hs.pending rest), hcfg⟩

end Sys2Proof.Machine
end

section
/-!
SUPPORT. Isolation of instances (R37), and of the registers of those that are not live (R38, R242).
-/

namespace Sys2Proof.Machine

/-! ## Other instances -/

/-- One effect, carried out in two states that agree on `k`, leaves them so. -/
theorem AgreeOn.apply {k : Nat} {s t : State} (h : AgreeOn k s t) (e : Effect) :
    AgreeOn k (e.apply k s) (e.apply k t) := by
  obtain ⟨htable, hmagic, hcfg, hk⟩ := h
  refine ⟨htable, hmagic, hcfg, ?_⟩
  cases hy : e.inst with
  | none => simpa [Effect.apply, hy] using hk
  | some y => simp [Effect.apply, hy, List.getElem?_set_self', hk]

/-- Settles O53: no ending writes a register set that is not named, and an instruction that names `k` decides
its effect from what the two states agree on (`exec_named`). -/
theorem instancesAreIsolated : Obligations.InstancesAreIsolated := by
  refine ⟨fun s t i k h hk => (exec_ends h).inst_of_not_named hk, ?_⟩
  intro s t s' i k hk hst h
  obtain ⟨F, hF⟩ := exec_named i k hk
  have ⟨htable, hmagic, hcfg, hinst⟩ := hst
  rw [hF] at h
  rw [hF t, ← htable, ← hmagic, ← hcfg, ← hinst]
  generalize F s.crcTable s.magic s.cfg s.insts[k]? = d at h ⊢
  cases d with
  | inl e =>
    cases h
    exact ⟨_, rfl, rfl, hst.apply e⟩
  | inr r => cases h

/-! ## Instances that are not live -/

/-- Two outcomes that a caller who sees no dead register cannot tell apart. -/
inductive Alike : Host.Outcome State Fault Refusal → Host.Outcome State Fault Refusal → Prop
  | next {a b : State} (hr : b.response = a.response) (hs : SameLive a b) : Alike (.next a) (.next b)
  | refused (r : Refusal) : Alike (.refused r) (.refused r)

theorem forall₂_set {α β : Type} {R : α → β → Prop} {l : List α} {l' : List β}
    (h : List.Forall₂ R l l') {a : α} {b : β} (hab : R a b) (k : Nat) :
    List.Forall₂ R (l.set k a) (l'.set k b) := by
  induction h generalizing k with
  | nil => exact .nil
  | cons hd tl ih =>
    cases k with
    | zero => exact .cons hab tl
    | succ k => exact .cons hd (ih k)

theorem forall₂_getElem? {α β : Type} {R : α → β → Prop} {l : List α} {l' : List β}
    (h : List.Forall₂ R l l') (k : Nat) : Option.Rel R l[k]? l'[k]? := by
  induction h generalizing k with
  | nil => exact .none
  | cons hd tl ih =>
    cases k with
    | zero => exact .some hd
    | succ k => exact ih k

section
variable {s t : State} (h : SameLive s t)
include h

/-- Both states have the same live instances, with the same registers. -/
theorem SameLive.live?_eq (k : Nat) : t.live? k = s.live? k := by
  obtain ⟨-, -, -, -, hinsts⟩ := h
  have hk := forall₂_getElem? hinsts k
  unfold State.live?
  generalize s.insts[k]? = o at hk
  generalize t.insts[k]? = p at hk
  cases hk with
  | none => rfl
  | @some x y hxy =>
    obtain ⟨hl, heq⟩ := hxy
    by_cases hx : x.live = true
    · rw [heq hx]
    · have hy : ¬ y.live = true := hl ▸ hx
      simp only [hx, hy]
      rfl

theorem SameLive.setInst (k : Nat) (y : Inst) : SameLive (s.setInst k y) (t.setInst k y) := by
  obtain ⟨htable, hmagic, hcfg, hg, hinsts⟩ := h
  exact ⟨htable, hmagic, hcfg, hg, forall₂_set hinsts ⟨rfl, fun _ => rfl⟩ k⟩

theorem SameLive.alike_finish (rs : ResultState) (o : Output) :
    Alike (.next (finish s rs o)) (.next (finish t rs o)) := .next rfl h

theorem SameLive.alike_refuse (r : RefusalCause) :
    Alike (.next (refuse s r)) (.next (refuse t r)) := .next rfl h

theorem SameLive.alike_raise (f : FaultCode) (n : Nat) :
    Alike (.next (raise s .global f n)) (.next (raise t .global f n)) := by
  obtain ⟨htable, hmagic, hcfg, hg, hinsts⟩ := h
  exact .next rfl ⟨htable, hmagic, hcfg, congrArg (·.record f) hg, hinsts⟩

theorem SameLive.alike_onConfig {a b : Host.Outcome State Fault Refusal} (hab : Alike a b) :
    Alike (onConfig s a) (onConfig t b) := by
  have ⟨_, _, hcfg, _, _⟩ := h
  cases hc : s.cfg.wf
  · rw [onConfig_of_not_wf hc, onConfig_of_not_wf (hcfg ▸ hc)]
    exact h.alike_refuse _
  · rwa [onConfig_of_wf hc, onConfig_of_wf (hcfg ▸ hc)]

theorem SameLive.alike_onLive {k : Nat} {f g : Inst → Host.Outcome State Fault Refusal}
    (hfg : ∀ x, Alike (f x) (g x)) : Alike (onLive s k f) (onLive t k g) := by
  refine h.alike_onConfig ?_
  rw [h.live?_eq k]
  cases s.live? k with
  | none => exact h.alike_refuse _
  | some x => exact hfg x

theorem SameLive.alike_command (k : Nat) (f : Mode → Option Mode) :
    Alike (command s k f) (command t k f) := by
  refine h.alike_onLive fun x => ?_
  cases f x.mode with
  | none => exact h.alike_finish _ _
  | some m => exact (h.setInst k _).alike_finish _ _

theorem SameLive.alike_connect (k v : Nat) :
    Alike (exec (.connect k v) s) (exec (.connect k v) t) := by
  have ⟨_, _, hcfg, _, _⟩ := h
  refine h.alike_onConfig ?_
  rw [hcfg]
  split
  · split
    · exact (h.setInst k _).alike_finish _ _
    · exact .refused _
  · exact .refused _

theorem SameLive.alike_disconnect (k : Nat) :
    Alike (exec (.disconnect k) s) (exec (.disconnect k) t) := by
  refine h.alike_onConfig ?_
  rw [h.live?_eq k]
  cases s.live? k with
  | none => exact h.alike_finish _ _
  | some x => exact (h.setInst k _).alike_finish _ _

theorem SameLive.alike_devstateLoad (k : Nat) (r : DevRecord) :
    Alike (exec (.devstateLoad k r) s) (exec (.devstateLoad k r) t) := by
  have ⟨_, _, hcfg, _, _⟩ := h
  refine h.alike_onLive fun x => ?_
  rw [hcfg]
  split
  · exact (h.setInst k _).alike_finish _ _
  · exact h.alike_refuse _

theorem SameLive.alike_faultRead (sel : FaultSel) :
    Alike (exec (.faultRead sel) s) (exec (.faultRead sel) t) := by
  have ⟨_, _, _, hg, _⟩ := h
  cases sel with
  | global =>
    refine h.alike_onConfig ?_
    rw [hg]
    exact h.alike_finish _ _
  | ofInst k => exact h.alike_onLive fun x => h.alike_finish _ _

theorem SameLive.alike_parse (k : Nat) (p : Bytes) :
    Alike (exec (.parse k p) s) (exec (.parse k p) t) := by
  have ⟨_, _, hcfg, _, _⟩ := h
  obtain ⟨f, hf, -⟩ := runsCommand_decodePayload s.cfg.opcodeMap k p
  rw [exec_parse, exec_parse, ← hcfg, hf, hf]
  exact h.alike_command k f

/-- Every instruction keeps the two states alike: the read-only memories and the live registers it reads are
the same in both. -/
theorem SameLive.alike_exec (i : Instr) : Alike (exec i s) (exec i t) := by
  have ⟨htable, hmagic, _, _, _⟩ := h
  cases hp : encode s.cfg.opcodeMap i with
  | some p =>
    obtain ⟨k, hk⟩ := names_of_encode hp
    obtain ⟨f, hf, -⟩ := runsCommand_of_encode hk hp
    rw [hf, hf]
    exact h.alike_command k f
  | none =>
    cases i <;> simp only [encode, reduceCtorEq] at hp
    case parse k p => exact h.alike_parse k p
    case connect k v => exact h.alike_connect k v
    case disconnect k => exact h.alike_disconnect k
    case devstateLoad k r => exact h.alike_devstateLoad k r
    case faultRead sel => exact h.alike_faultRead sel
    case modeRead k => exact h.alike_onLive fun x => h.alike_finish _ _
    case buildAck k op =>
      refine h.alike_onLive fun x => ?_
      rw [htable, hmagic]
      exact h.alike_finish _ _
    case crc8Compute b =>
      refine h.alike_onConfig ?_
      rw [htable]
      exact h.alike_finish _ _
    case crc8Verify b e =>
      refine h.alike_onConfig ?_
      rw [htable]
      exact h.alike_finish _ _
    case frameEncode p =>
      refine h.alike_onConfig ?_
      rw [htable, hmagic]
      split
      · exact h.alike_raise _ _
      · exact h.alike_finish _ _
    case frameStrip f =>
      refine h.alike_onConfig ?_
      split
      · exact h.alike_raise _ _
      · exact h.alike_finish _ _
    case frameValidate f =>
      refine h.alike_onConfig ?_
      rw [htable]
      split
      · exact h.alike_finish _ _
      · exact h.alike_finish _ _
    case frameScan buf =>
      refine h.alike_onConfig ?_
      rw [htable, hmagic]
      split
      · exact h.alike_finish _ _
      · exact h.alike_finish _ _

end

/-- Settles O57: every shared operation keeps states that differ in dead registers alike, so every instruction
does (`SameLive.alike_exec`). -/
theorem deadRegistersAreUnreadable : Obligations.DeadRegistersAreUnreadable := by
  intro s t s' i hst h
  have ha := hst.alike_exec i
  rw [h] at ha
  cases ha' : exec i t <;> rw [ha'] at ha <;> cases ha
  exact ⟨_, rfl, ‹_›, ‹_›⟩

end Sys2Proof.Machine
end

section
/-!
SUPPORT. Byte order of the multi-byte arguments PARSE reads (R54, R79, R170, R171).
-/

namespace Sys2Proof

/-! ## Assembled arguments as numbers -/

theorem be16_eq_append (h l : Byte) : be16 h l = h ++ l := by
  ext i hi
  grind [be16]

/-- R10: big-endian assembly, the first byte most significant. -/
theorem be16_toNat (h l : Byte) : (be16 h l).toNat = h.toNat * 256 + l.toNat := by
  rw [be16_eq_append, BitVec.toNat_append, ← Nat.shiftLeft_add_eq_or_of_lt l.isLt,
    Nat.shiftLeft_eq]

theorem le32_eq_be16_append (b0 b1 b2 b3 : Byte) :
    le32 b0 b1 b2 b3 = be16 b3 b2 ++ be16 b1 b0 := by
  ext i hi
  grind [le32, be16]

/-- R10: little-endian assembly, the first byte least significant. -/
theorem le32_toNat (b0 b1 b2 b3 : Byte) :
    (le32 b0 b1 b2 b3).toNat =
      b0.toNat + 256 * b1.toNat + 65536 * b2.toNat + 16777216 * b3.toNat := by
  rw [le32_eq_be16_append, BitVec.toNat_append,
    ← Nat.shiftLeft_add_eq_or_of_lt (be16 b1 b0).isLt, Nat.shiftLeft_eq, be16_toNat, be16_toNat]
  omega

namespace Machine

/-! ## PARSE of a named opcode -/

/-- R81, R160: PARSE of a payload that starts with a name's byte runs that name's command. -/
theorem exec_parse_byte {s : State} (hc : s.cfg.wf = true) (k : Nat) (o : Opcode) (args : Bytes) :
    exec (.parse k (s.cfg.opcodeMap.byte o :: args)) s = exec (decodeNamed k args o) s := by
  rw [exec_parse, decodePayload_byte (Config.opcodeMap_wf hc)]

/-! ## The two commands where `k` is live -/

section
variable {s : State} {k : Nat} {x : Inst} (hc : s.cfg.wf = true) (hx : s.live? k = some x)
include hc hx

/-- R170: a pulsing BUZZER writes its four fields. -/
theorem exec_buzzer_pulse (c i d : BitVec 16) :
    exec (.buzzer k (.pulse c i d)) s =
      let m := { x.mode with buzState := 0x02, buzCount := c, buzInterval := i, buzDuration := d }
      .next (finish (s.setInst k { x with mode := m }) .ok (.mode m)) :=
  command_of_live hc hx fun m =>
    some { m with buzState := 0x02, buzCount := c, buzInterval := i, buzDuration := d }

/-- R171: SET_TIME with its time writes CLOCK. -/
theorem exec_setTime_time (r : Byte) (t : BitVec 32) :
    exec (.setTime k (.time r t)) s =
      let m := { x.mode with clock := t }
      .next (finish (s.setInst k { x with mode := m }) .ok (.mode m)) :=
  command_of_live hc hx fun m => some { m with clock := t }

end

/-- Settles O28: the payload decodes to a pulsing BUZZER whose fields `be16` assembles (`be16_toNat`). -/
theorem pulsingBuzzerIsBigEndian : Obligations.PulsingBuzzerIsBigEndian := by
  intro s k x c1 c0 i1 i0 d1 d0 more hc hx
  have hrun := (exec_parse_byte hc k .buzzer (0x02 :: c1 :: c0 :: i1 :: i0 :: d1 :: d0 :: more)).trans
    (exec_buzzer_pulse hc hx (be16 c1 c0) (be16 i1 i0) (be16 d1 d0))
  exact ⟨_, hrun, rfl, be16_toNat c1 c0, be16_toNat i1 i0, be16_toNat d1 d0, rfl, rfl, rfl, rfl, rfl⟩

/-- Settles O29: the payload decodes to a SET_TIME whose time `le32` assembles (`le32_toNat`). -/
theorem setTimeIsLittleEndian : Obligations.SetTimeIsLittleEndian := by
  intro s k x r t0 t1 t2 t3 more hc hx
  have hrun := (exec_parse_byte hc k .setTime (r :: t0 :: t1 :: t2 :: t3 :: more)).trans
    (exec_setTime_time hc hx r (le32 t0 t1 t2 t3))
  exact ⟨_, le32_toNat t0 t1 t2 t3, hrun⟩

end Machine
end Sys2Proof
end

section
/-!
SUPPORT. Operations on different instances commute (R37, R62): each is an `Effect` on its own register set,
and the other's effect leaves what it reads as it was.
-/

namespace Sys2Proof.Machine

/-- An instruction that completes on `k` has one effect, in all states that agree on what it may read. -/
theorem exec_effect {i : Instr} {k : Nat} {s s' : State} (hk : i.names = some k)
    (h : exec i s = .next s') :
    ∃ e : Effect, ∀ t, AgreeOn k s t → exec i t = .next (e.apply k t) := by
  obtain ⟨F, hF⟩ := exec_named i k hk
  rw [hF] at h
  cases hd : F s.crcTable s.magic s.cfg s.insts[k]? with
  | inl e =>
    refine ⟨e, fun t ⟨htable, hmagic, hcfg, hinst⟩ => ?_⟩
    rw [hF, ← htable, ← hmagic, ← hcfg, ← hinst, hd]
  | inr r => simp [hd] at h

theorem AgreeOn.refl (k : Nat) (s : State) : AgreeOn k s s := ⟨rfl, rfl, rfl, rfl⟩

/-- R37: an effect on another register set changes nothing an operation on `l` may read. -/
theorem Effect.agreeOn_apply {k l : Nat} (e : Effect) (s : State) (hkl : k ≠ l) :
    AgreeOn l s (e.apply k s) := by
  refine ⟨rfl, rfl, rfl, ?_⟩
  cases hy : e.inst with
  | none => simp [Effect.apply, hy]
  | some y => simp [Effect.apply, hy, List.getElem?_set_ne hkl]

theorem Effect.insts_apply_comm {k l : Nat} (e d : Effect) (s : State) (hkl : k ≠ l) :
    (d.apply l (e.apply k s)).insts = (e.apply k (d.apply l s)).insts := by
  cases hx : e.inst <;> cases hy : d.inst <;> simp only [Effect.apply, hx, hy]
  exact List.set_comm _ _ hkl

/-- R224: the run is marked after an effect exactly if it was before or the effect marks it. -/
theorem Effect.isSome_refused_apply (e : Effect) (k : Nat) (s : State) :
    (e.apply k s).refused.isSome = (s.refused.isSome || e.mark.isSome) := by
  cases hm : e.mark <;> simp [Effect.apply, hm]

/-- Settles O54: each operation has the same effect after the other as alone (`exec_effect`), and effects on
different register sets commute. -/
theorem operationsOnDifferentInstancesCommute :
    Obligations.OperationsOnDifferentInstancesCommute := by
  intro s a b i j k l hi hj hkl ha hb
  obtain ⟨e, he⟩ := exec_effect hi ha
  obtain ⟨d, hd⟩ := exec_effect hj hb
  obtain rfl : e.apply k s = a := by simpa [he s (.refl k s)] using ha
  obtain rfl : d.apply l s = b := by simpa [hd s (.refl l s)] using hb
  refine ⟨_, _, hd _ (e.agreeOn_apply s hkl), he _ (d.agreeOn_apply s hkl.symm), rfl, rfl,
    e.insts_apply_comm d s hkl, rfl, ?_⟩
  simp only [Effect.isSome_refused_apply, Bool.or_right_comm]

end Sys2Proof.Machine
end

section
/-!
SUPPORT. Operations outside the instances answer from the read-only memories (R62, R107).
-/

namespace Sys2Proof.Machine

/-- Under a well-formed configuration CRC8_COMPUTE, CRC8_VERIFY and the frame operations give an answer that
the two read-only memories decide. -/
theorem exec_unnamed_answer {i : Instr} (hi : i.names = none) (hg : i ≠ .faultRead .global) :
    ∃ R : Bytes → Bytes → Response, ∀ s : State, ∃ t : State,
      exec i s = onConfig s (.next t) ∧ t.response = some (R s.crcTable s.magic) := by
  cases i <;> simp only [Instr.names, reduceCtorEq] at hi
  case crc8Compute b => exact ⟨fun T _ => .ret .ok (.crc (crc8 T b)), fun s => ⟨_, rfl, rfl⟩⟩
  case crc8Verify b e =>
    exact ⟨fun T _ => .ret (checkResult (crc8 T b == e)) (.verified (crc8 T b == e)),
      fun s => ⟨_, rfl, rfl⟩⟩
  case frameEncode p =>
    by_cases hp : 253 < p.length
    · exact ⟨fun _ _ => .faulted .payloadTooLong p.length,
        fun s => ⟨_, congrArg (onConfig s) (if_pos hp), rfl⟩⟩
    · exact ⟨fun T M => .ret .ok (.bytes (buildFrame T M p)),
        fun s => ⟨_, congrArg (onConfig s) (if_neg hp), rfl⟩⟩
  case frameStrip f =>
    by_cases hf : f.length < 5
    · exact ⟨fun _ _ => .faulted .stripShort f.length,
        fun s => ⟨_, congrArg (onConfig s) (if_pos hf), rfl⟩⟩
    · exact ⟨fun _ _ => .ret .ok (.bytes (slice f 4 (f.length - 1))),
        fun s => ⟨_, congrArg (onConfig s) (if_neg hf), rfl⟩⟩
  case frameValidate f =>
    by_cases hf : f.length = 0
    · exact ⟨fun _ _ => .ret .noFrame (.validated false false),
        fun s => ⟨_, congrArg (onConfig s) (if_pos hf), rfl⟩⟩
    · exact ⟨fun T _ => .ret (checkResult (frameValid T f)) (.validated (frameValid T f)
        (!frameValid T f)), fun s => ⟨_, congrArg (onConfig s) (if_neg hf), rfl⟩⟩
  case frameScan buf =>
    refine ⟨fun T M => (scanFrame T M buf).elim (.ret .noFrame .noFrame)
      fun r => .ret .ok (.found r.1 r.2), fun s => ?_⟩
    simp only [exec, execFrameScan]
    cases scanFrame s.crcTable s.magic buf with
    | none => exact ⟨_, rfl, rfl⟩
    | some r => exact ⟨_, rfl, rfl⟩
  case faultRead sel =>
    cases sel with
    | global => exact absurd rfl hg
    | ofInst k => cases hi

/-- Settles O55: no ending writes a register set that is not named, and the answer is decided by what the two
states share (`exec_unnamed_answer`). -/
theorem unnamedOperationsReadOnlyTheRoms : Obligations.UnnamedOperationsReadOnlyTheRoms := by
  intro s t s' i hi hg htable hmagic hcfg h
  refine ⟨List.ext_getElem? fun k => (exec_ends h).inst_of_not_named (by simp [hi]), ?_⟩
  obtain ⟨R, hR⟩ := exec_unnamed_answer hi hg
  obtain ⟨u, hu, hur⟩ := hR s
  obtain ⟨v, hv, hvr⟩ := hR t
  rw [hu] at h
  rw [hv]
  rcases onConfig_next h with ⟨hc, rfl⟩ | ⟨hc, hb⟩
  · exact ⟨_, onConfig_of_not_wf (hcfg ▸ hc) _, rfl⟩
  · cases hb
    refine ⟨_, onConfig_of_wf (hcfg ▸ hc) _, ?_⟩
    rw [hur, hvr, htable, hmagic]

end Sys2Proof.Machine
end

section
/-!
SUPPORT. The payloads the encoding tables write out, under the default OPCODE_MAP (R78, R80, R82, R86).
-/

namespace Sys2Proof

theorem OpcodeMap.default_wf : OpcodeMap.default.wf = true := by decide

/-- R78: `payload[0]` of a default opcode byte selects the command that the argument bytes complete. -/
theorem decodePayload_default (k : Nat) (o : Opcode) (args : Bytes) :
    decodePayload OpcodeMap.default k (OpcodeMap.default.byte o :: args) = decodeNamed k args o :=
  decodePayload_byte OpcodeMap.default_wf k o args

/-- Settles O2: six payloads start with the default byte of a name (`decodePayload_default`), whose command
reads its arguments in order; 0xFF is the byte of no name. -/
theorem payloadWordsDecodeAsTabled : Obligations.PayloadWordsDecodeAsTabled := by
  refine ⟨decodePayload_default 3 .echo [], decodePayload_default 3 .testMode [0x07],
    decodePayload_default 3 .ledRed [0x01],
    decodePayload_default 3 .buzzer [0x02, 0x00, 0x05, 0x00, 0x64, 0x03, 0xE8],
    decodePayload_default 3 .setTime [0xAA, 0x78, 0x56, 0x34, 0x12], decodePayload_default 3 .txd [],
    decodePayload_unnamed ?_ 3 [], rfl⟩
  decide

end Sys2Proof
end

section
/-!
SUPPORT. FRAME_ENCODE of a payload that fits (R72, R74, R120).
-/

namespace Sys2Proof.Machine

theorem exec_frameEncode_of_length {s : State} {p : Bytes} (hc : s.cfg.wf = true)
    (hp : p.length ≤ 253) :
    exec (.frameEncode p) s = .next (finish s .ok (.bytes (buildFrame s.crcTable s.magic p))) := by
  simp [exec, execFrameEncode, onConfig_of_wf hc, Nat.not_lt.mpr hp]

/-- R22, R72, R74: the built frame byte by byte, from the marker's three bytes to the checksum. -/
theorem buildFrame_magicRom (t p : Bytes) :
    buildFrame t magicRom p =
      0x23 :: 0x40 :: 0x21 :: BitVec.ofNat 8 (p.length + 2) :: p ++
        [crc8 t (0x23 :: 0x40 :: 0x21 :: BitVec.ofNat 8 (p.length + 2) :: p)] :=
  buildFrame_eq t magicRom p

/-- Settles O9: a payload that fits is answered with the built frame, and MAGIC holds R22's bytes. -/
theorem frameEncodeBuildsTheFrame : Obligations.FrameEncodeBuildsTheFrame := by
  intro s p hc hm hp
  rw [exec_frameEncode_of_length hc hp, ← buildFrame_magicRom, ← hm]
  rfl

end Sys2Proof.Machine
end

section
/-!
SUPPORT. The table of R102 holds eight shifts of each index (R101), so the fold of R103 is the shift loop of
R106; a shift of the register is injective, so the table is a permutation and no single byte goes unnoticed
(R104).
-/

namespace Sys2Proof.Machine

/-! ## The shift register -/

/-- R101: the bit that leaves at the top comes back at the bottom, as bit 0 of the polynomial. -/
theorem getLsbD_zero_crcShift (c : Byte) : (crcShift c).getLsbD 0 = c.msb := by
  cases h : c.msb <;> simp [crcShift, h]

theorem crcShift_injective : Function.Injective crcShift := by
  intro c d h
  have hmsb : c.msb = d.msb := by rw [← getLsbD_zero_crcShift, h, getLsbD_zero_crcShift]
  have hshift : c <<< 1 = d <<< 1 := by
    unfold crcShift at h
    rw [hmsb] at h
    split at h
    · exact BitVec.xor_left_inj _ |>.mp h
    · exact h
  refine BitVec.eq_of_getElem_eq fun i hi => ?_
  rcases Nat.lt_or_ge i 7 with hlow | htop
  · have hlt : i + 1 < 8 := by omega
    simpa [hlt] using congrArg (·.getLsbD (i + 1)) hshift
  · obtain rfl : i = 7 := by omega
    exact hmsb

theorem crcShift8_injective : Function.Injective crcShift8 :=
  crcShift_injective.iterate 8

theorem crcShift8_zero : crcShift8 0 = 0 := by decide

/-! ## The table -/

theorem crcTableRom_eq_map_crcShift8 :
    crcTableRom = (List.range 256).map fun i => crcShift8 (BitVec.ofNat 8 i) := by decide +kernel

theorem crcTableRom_nodup : crcTableRom.Nodup := by
  rw [crcTableRom_eq_map_crcShift8]
  refine List.nodup_range.map_on fun i hi j hj h => ?_
  have hij := congrArg BitVec.toNat (crcShift8_injective h)
  rw [List.mem_range] at hi hj
  simpa [Nat.mod_eq_of_lt hi, Nat.mod_eq_of_lt hj] using hij

/-- Settles O4: the listing is checked entry by entry, and eight shifts are injective. -/
theorem crcTableIsTheGeneratedPermutation : Obligations.CrcTableIsTheGeneratedPermutation :=
  ⟨crcTableRom_eq_map_crcShift8, by simp [crcTableRom_eq_map_crcShift8], crcTableRom_nodup⟩

theorem getD_crcTableRom (i : Byte) : crcTableRom.getD i.toNat 0 = crcShift8 i := by
  simp [crcTableRom_eq_map_crcShift8, List.getElem?_range i.isLt]

theorem crcStep_crcTableRom (c x : Byte) : crcStep crcTableRom c x = crcShift8 (c ^^^ x) :=
  getD_crcTableRom (c ^^^ x)

/-! ## The fold -/

/-- Settles O7: the two loops take the same step (`crcStep_crcTableRom`). -/
theorem tableFoldEqualsShiftLoop : Obligations.TableFoldEqualsShiftLoop := by
  intro b
  have hstep : crcStep crcTableRom = fun c x => crcShift8 (c ^^^ x) := by
    funext c x
    exact crcStep_crcTableRom c x
  rw [crc8, hstep, crc8Bitwise]

theorem crcStep_crcTableRom_self (c : Byte) : crcStep crcTableRom c c = 0 := by
  rw [crcStep_crcTableRom, BitVec.xor_self]
  exact crcShift8_zero

theorem crcStep_crcTableRom_left_injective (x : Byte) :
    Function.Injective (crcStep crcTableRom · x) := by
  intro c d h
  simp only [crcStep_crcTableRom] at h
  exact BitVec.xor_left_inj x |>.mp (crcShift8_injective h)

theorem crcStep_crcTableRom_right_injective (c : Byte) :
    Function.Injective (crcStep crcTableRom c) := by
  intro x y h
  simp only [crcStep_crcTableRom] at h
  exact BitVec.xor_right_inj c |>.mp (crcShift8_injective h)

/-- Different registers stay different over the same bytes. -/
theorem foldl_crcStep_crcTableRom_injective (b : Bytes) :
    Function.Injective (b.foldl (crcStep crcTableRom) ·) := by
  induction b with
  | nil => exact Function.injective_id
  | cons x b ih => exact ih.comp (crcStep_crcTableRom_left_injective x)

theorem crc8_crcTableRom_replicate_zero_append (n : Nat) (b : Bytes) :
    crc8 crcTableRom (List.replicate n 0 ++ b) = crc8 crcTableRom b := by
  induction n with
  | zero => rfl
  | succ n ih => simpa [List.replicate_succ, crc8, crcStep_crcTableRom_self] using ih

theorem crc8_crcTableRom_append_self (b : Bytes) :
    crc8 crcTableRom (b ++ [crc8 crcTableRom b]) = 0 := by
  rw [crc8_append_singleton, crcStep_crcTableRom_self]

/-- Two bytes at one place send the fold to two registers, and the bytes after it keep the two apart. -/
theorem crc8_crcTableRom_middle_injective (a b : Bytes) :
    Function.Injective fun x => crc8 crcTableRom (a ++ x :: b) := by
  intro x y h
  simp only [crc8_append, List.foldl_cons] at h
  exact crcStep_crcTableRom_right_injective _ (foldl_crcStep_crcTableRom_injective b h)

theorem crc8_crcTableRom_set_ne {b : Bytes} {j : Nat} {v : Byte} (hj : j < b.length)
    (hv : b[j]? ≠ some v) : crc8 crcTableRom (b.set j v) ≠ crc8 crcTableRom b := by
  have hb : b = b.take j ++ b[j] :: b.drop (j + 1) := by simp
  intro h
  rw [List.set_eq_take_append_cons_drop, if_pos hj] at h
  have hvj : v = b[j] :=
    crc8_crcTableRom_middle_injective (b.take j) (b.drop (j + 1)) (h.trans (congrArg _ hb))
  exact hv (hvj ▸ List.getElem?_eq_getElem hj)

/-- Settles O8: a step by the register's own value gives 0, and steps are injective in the register and in the
byte. -/
theorem checksumCornerCases : Obligations.ChecksumCornerCases :=
  ⟨crc8_nil _, crc8_crcTableRom_replicate_zero_append, crc8_crcTableRom_append_self,
    fun _ _ _ => crc8_crcTableRom_set_ne⟩

/-! ## The CRC8 unit -/

theorem exec_crc8Verify_of_wf {s : State} (hc : s.cfg.wf = true) (b : Bytes) (e : Byte) :
    exec (.crc8Verify b e) s = .next (finish s (checkResult (crc8 s.crcTable b == e))
      (.verified (crc8 s.crcTable b == e))) :=
  onConfig_of_wf hc _

/-- Settles O5: the answered checksum is that fold, with `crcStep` as its step. -/
theorem crcComputeAnswersTheFold : Obligations.CrcComputeAnswersTheFold :=
  fun _ _ hc => onConfig_of_wf hc _

/-- Settles O6: the comparison decides the result state and the answer (`exec_crc8Verify_of_wf`). -/
theorem crcVerifyComparesChecksum : Obligations.CrcVerifyComparesChecksum := by
  intro s b e hc
  rw [exec_crc8Verify_of_wf hc]
  refine ⟨fun h => ?_, fun h => ?_⟩
  · rw [beq_iff_eq.mpr h]
    rfl
  · rw [beq_eq_false_iff_ne.mpr h]
    rfl

end Sys2Proof.Machine
end

section
/-!
SUPPORT. FRAME_VALIDATE, FRAME_STRIP and the two faults of the codec (R122 to R130): each answer is told by one
test on the bytes, and under the table of R102 that test is a whole checksum of 0.
-/

namespace Sys2Proof.Machine

/-! ## Answers -/

/-- Two ends of an operation on one state are equal exactly if they return the same. -/
theorem finish_inj {s : State} {rs rs' : ResultState} {o o' : Output} :
    finish s rs o = finish s rs' o' ↔ rs = rs' ∧ o = o' := by
  simp [finish]

/-! ## Faults -/

theorem exec_frameEncode_of_long {s : State} {p : Bytes} (hc : s.cfg.wf = true)
    (hp : 253 < p.length) :
    exec (.frameEncode p) s = .next (raise s .global .payloadTooLong p.length) := by
  simp [exec, execFrameEncode, onConfig_of_wf hc, hp]

theorem exec_frameStrip_of_short {s : State} {f : Bytes} (hc : s.cfg.wf = true)
    (hf : f.length < 5) :
    exec (.frameStrip f) s = .next (raise s .global .stripShort f.length) := by
  simp [exec, execFrameStrip, onConfig_of_wf hc, hf]

/-- Settles O10: `raise` records the fault in FAULT_G by R32's rule and writes no other register. -/
theorem frameEncodeFaultsOnLongPayload : Obligations.FrameEncodeFaultsOnLongPayload :=
  fun _ _ hc hp => exec_frameEncode_of_long hc hp

/-- Settles O12: as for FRAME_ENCODE, with the fault of a short input. -/
theorem frameStripFaultsOnShortInput : Obligations.FrameStripFaultsOnShortInput :=
  fun _ _ hc hf => exec_frameStrip_of_short hc hf

/-! ## FRAME_STRIP -/

/-- Settles O11: the slice is what stands between four bytes and one. -/
theorem frameStripAnswersTheSlice : Obligations.FrameStripAnswersTheSlice := by
  intro s h0 h1 h2 h3 c p hc
  have hslice := slice_append_middle [h0, h1, h2, h3] p [c] (i := 4) (j := p.length + 4) rfl
    (Nat.add_comm ..)
  rw [exec_frameStrip_of_length hc (by simp)]
  simpa [finish] using hslice

/-! ## FRAME_VALIDATE -/

theorem exec_frameValidate_nil {s : State} (hc : s.cfg.wf = true) :
    exec (.frameValidate []) s = .next (finish s .noFrame (.validated false false)) :=
  onConfig_of_wf hc _

theorem exec_frameValidate_of_ne_nil {s : State} {f : Bytes} (hc : s.cfg.wf = true) (hf : f ≠ []) :
    exec (.frameValidate f) s = .next (finish s (checkResult (frameValid s.crcTable f))
      (.validated (frameValid s.crcTable f) (!frameValid s.crcTable f))) := by
  simp [exec, execFrameValidate, onConfig_of_wf hc, hf]

/-- FRAME_VALIDATE answers (true, false) exactly if the last byte is the CRC8 of the others (R127). -/
theorem exec_frameValidate_valid_iff {s : State} (hc : s.cfg.wf = true) (f : Bytes) :
    exec (.frameValidate f) s = .next (finish s .ok (.validated true false)) ↔
      frameValid s.crcTable f = true := by
  rcases eq_or_ne f [] with rfl | hf
  · simp [exec_frameValidate_nil hc, finish_inj, frameValid]
  · rw [exec_frameValidate_of_ne_nil hc hf, Host.Outcome.next.injEq, finish_inj]
    cases frameValid s.crcTable f <;> simp [checkResult]

/-- A non-empty sequence that does not validate is answered with a mismatch report (R129). -/
theorem exec_frameValidate_of_not_valid {s : State} {f : Bytes} (hc : s.cfg.wf = true) (hf : f ≠ [])
    (hv : frameValid s.crcTable f = false) :
    exec (.frameValidate f) s = .next (finish s .checksumMismatch (.validated false true)) := by
  rw [exec_frameValidate_of_ne_nil hc hf, hv]
  rfl

/-- Settles O13: `frameValid` compares the byte after `b` with the checksum of `b`. -/
theorem frameValidateChecksTheLastByte : Obligations.FrameValidateChecksTheLastByte := by
  intro s hc
  refine ⟨exec_frameValidate_nil hc, fun b => ?_, fun b c hne => ?_⟩
  · refine (exec_frameValidate_valid_iff hc _).mpr ?_
    rw [frameValid_append_singleton, beq_self_eq_true]
  · refine exec_frameValidate_of_not_valid hc (by simp) ?_
    rw [frameValid_append_singleton, beq_eq_false_iff_ne]
    exact hne.symm

/-! ## Built frames -/

/-- R123: a built frame ends in the checksum of what stands before it. -/
theorem frameValid_buildFrame (t magic p : Bytes) : frameValid t (buildFrame t magic p) = true := by
  rw [buildFrame_eq, frameValid_append_singleton, beq_self_eq_true]

/-- R123: FRAME_STRIP of a built frame answers its payload, whatever the table. -/
theorem exec_frameStrip_buildFrame {s : State} (hc : s.cfg.wf = true) (t p : Bytes) :
    exec (.frameStrip (buildFrame t magicRom p)) s = .next (finish s .ok (.bytes p)) := by
  have hlen : 5 ≤ (buildFrame t magicRom p).length := by simp [buildFrame_length, magicRom]
  rw [exec_frameStrip_of_length hc hlen, slice_buildFrame]

/-- Settles O15: the frame is the built one, which strips to its payload and ends in its checksum. -/
theorem encodedFrameStripsAndValidates : Obligations.EncodedFrameStripsAndValidates := by
  intro s p hc hm hp
  refine ⟨buildFrame s.crcTable magicRom p, ?_, exec_frameStrip_buildFrame hc s.crcTable p,
    (exec_frameValidate_valid_iff hc _).mpr (frameValid_buildFrame ..)⟩
  rw [← hm]
  exact exec_frameEncode_of_length hc hp

/-! ## The whole checksum -/

/-- Only a byte equal to the register takes it to 0. -/
theorem crcStep_crcTableRom_eq_zero_iff (c x : Byte) : crcStep crcTableRom c x = 0 ↔ x = c := by
  rw [← crcStep_crcTableRom_self c]
  exact (crcStep_crcTableRom_right_injective c).eq_iff

theorem frameValid_crcTableRom_iff {f : Bytes} (hf : f ≠ []) :
    frameValid crcTableRom f = true ↔ crc8 crcTableRom f = 0 := by
  rw [← List.dropLast_append_getLast hf, frameValid_append_singleton, crc8_append_singleton,
    crcStep_crcTableRom_eq_zero_iff, beq_iff_eq]
  exact eq_comm

/-- Settles O14: the last byte is the checksum of the others exactly if it takes the fold to 0. -/
theorem validIffWholeChecksumZero : Obligations.ValidIffWholeChecksumZero := by
  intro s f hc ht hf
  rw [← frameValid_crcTableRom_iff hf, ← ht]
  exact exec_frameValidate_valid_iff hc f

/-- Settles O16: a changed byte changes the whole checksum (`crc8_crcTableRom_set_ne`), which was 0. -/
theorem oneCorruptedByteIsDetected : Obligations.OneCorruptedByteIsDetected := by
  intro s f j v hc ht hvalid hj hv
  have hf : f ≠ [] := List.ne_nil_of_length_pos (Nat.zero_lt_of_lt hj)
  have hset : f.set j v ≠ [] := by simpa using hf
  have hzero : crc8 crcTableRom f = 0 :=
    (validIffWholeChecksumZero s f hc ht hf).mp hvalid
  refine exec_frameValidate_of_not_valid hc hset ?_
  rw [ht, ← Bool.not_eq_true, frameValid_crcTableRom_iff hset, ← hzero]
  exact crc8_crcTableRom_set_ne hj hv

end Sys2Proof.Machine
end

section
/-!
SUPPORT. FRAME_SCAN answers the lowest frame or that there is none (R134 to R143): what the scan answers is a
frame, and where there is a frame there is a lowest one, at which the scan stops.
-/

namespace Sys2Proof.Machine

/-! ## The scan -/

/-- From any position and with any number of passes, what the scan answers is a frame. -/
theorem frameAt_of_scanLoop {t magic buf : Bytes} {o m : Nat} :
    ∀ n i : Nat, scanLoop t magic buf n i = some (o, m) → FrameAt t magic buf o m := by
  intro n
  induction n with
  | zero =>
    intro i h
    simp [scanLoop] at h
  | succ n ih =>
    intro i h
    cases hl : buf[i + 3]? with
    | none => simp [scanLoop, hl] at h
    | some l =>
      simp only [scanLoop, hl] at h
      split_ifs at h with hmagic hok
      · obtain ⟨rfl, rfl⟩ : i = o ∧ l.toNat + 3 = m := by simpa using h
        exact (frameAt_iff ..).mpr ⟨hmagic, l, hl, hok, rfl⟩
      · exact ih (i + 3) h
      · exact ih (i + 1) h

theorem frameAt_of_scanFrame {t magic buf : Bytes} {o m : Nat}
    (h : scanFrame t magic buf = some (o, m)) : FrameAt t magic buf o m :=
  frameAt_of_scanLoop buf.length 0 h

/-- Where there is a frame there is a lowest one. -/
theorem FrameAt.exists_lowest {t magic buf : Bytes} {o m : Nat} (h : FrameAt t magic buf o m) :
    ∃ o₀ m₀, o₀ ≤ o ∧ FrameAt t magic buf o₀ m₀ ∧ ∀ o' m', o' < o₀ → ¬ FrameAt t magic buf o' m' := by
  classical
  have hex : ∃ o₀, ∃ m₀, FrameAt t magic buf o₀ m₀ := ⟨o, m, h⟩
  obtain ⟨m₀, hm₀⟩ := Nat.find_spec hex
  exact ⟨Nat.find hex, m₀, Nat.find_min' hex ⟨m, h⟩, hm₀,
    fun o' m' hlt hf => Nat.find_min hex hlt ⟨m', hf⟩⟩

theorem scanFrame_eq_some_iff {t buf : Bytes} {o m : Nat} :
    scanFrame t magicRom buf = some (o, m) ↔
      FrameAt t magicRom buf o m ∧ ∀ o' m', o' < o → ¬ FrameAt t magicRom buf o' m' := by
  refine ⟨fun h => ⟨frameAt_of_scanFrame h, fun o' m' hlt hf => ?_⟩,
    fun ⟨hf, hlow⟩ => scanFrame_eq_some hf hlow⟩
  obtain ⟨o₀, m₀, hle, hf₀, hlow⟩ := hf.exists_lowest
  obtain ⟨rfl, -⟩ : o = o₀ ∧ m = m₀ := by simpa [h] using scanFrame_eq_some hf₀ hlow
  omega

theorem scanFrame_eq_none_iff {t buf : Bytes} :
    scanFrame t magicRom buf = none ↔ ∀ o m, ¬ FrameAt t magicRom buf o m := by
  constructor
  · intro h o m hf
    obtain ⟨o₀, m₀, -, hf₀, hlow⟩ := hf.exists_lowest
    simp [scanFrame_eq_some hf₀ hlow] at h
  · intro hno
    refine Option.eq_none_iff_forall_ne_some.mpr fun ⟨o, m⟩ h => ?_
    exact hno o m (frameAt_of_scanFrame h)

/-! ## FRAME_SCAN -/

theorem exec_frameScan_of_none {s : State} {buf : Bytes} (hc : s.cfg.wf = true)
    (h : scanFrame s.crcTable s.magic buf = none) :
    exec (.frameScan buf) s = .next (finish s .noFrame .noFrame) := by
  simp [exec, execFrameScan, onConfig_of_wf hc, h]

theorem exec_frameScan_found_iff {s : State} (hc : s.cfg.wf = true) (buf : Bytes) (o n : Nat) :
    exec (.frameScan buf) s = .next (finish s .ok (.found o n)) ↔
      scanFrame s.crcTable s.magic buf = some (o, n) := by
  cases h : scanFrame s.crcTable s.magic buf with
  | none => simp [exec_frameScan_of_none hc h, finish_inj]
  | some r =>
    obtain ⟨o', n'⟩ := r
    simp [exec_frameScan_of_found hc h, finish_inj]

theorem exec_frameScan_noFrame_iff {s : State} (hc : s.cfg.wf = true) (buf : Bytes) :
    exec (.frameScan buf) s = .next (finish s .noFrame .noFrame) ↔
      scanFrame s.crcTable s.magic buf = none := by
  cases h : scanFrame s.crcTable s.magic buf with
  | none => simp [exec_frameScan_of_none hc h]
  | some r =>
    obtain ⟨o, n⟩ := r
    simp [exec_frameScan_of_found hc h, finish_inj]

/-- Settles O17: FRAME_SCAN answers what the scan finds, and the scan finds the lowest frame. -/
theorem scanFindsTheLowestFrame : Obligations.ScanFindsTheLowestFrame := by
  intro s buf hc hm
  refine ⟨?_, fun o n => ?_, ?_⟩
  · cases h : scanFrame s.crcTable s.magic buf with
    | none => exact .inr (exec_frameScan_of_none hc h)
    | some r => exact .inl ⟨r.1, r.2, exec_frameScan_of_found hc h⟩
  · refine (exec_frameScan_found_iff hc buf o n).trans ?_
    rw [hm]
    exact scanFrame_eq_some_iff
  · refine (exec_frameScan_noFrame_iff hc buf).trans ?_
    rw [hm]
    exact scanFrame_eq_none_iff

/-- Settles O18: the frame stands behind the garbage (`frameAt_buildFrame`) and is the lowest one. -/
theorem embeddedFrameIsFound : Obligations.EmbeddedFrameIsFound := by
  intro s g p f x hc hm hp hf hlow
  obtain rfl : f = buildFrame s.crcTable magicRom p := hm ▸ (frameEncode_answer hc hf rfl).2
  refine exec_frameScan_of_found hc ?_
  rw [hm] at hlow ⊢
  exact scanFrame_eq_some (frameAt_buildFrame s.crcTable g p x hp) hlow

end Sys2Proof.Machine
end

section
/-!
SUPPORT. Payloads that lack a byte their command reads, and payloads with further bytes (R78, R173 to R175): the
decoder reads a truncated command of the first, and of the second what it read without those bytes.
-/

namespace Sys2Proof

/-! ## Arguments -/

theorem byteArg_of_short {args : Bytes} (h : args.length + 1 < 2) : byteArg args = .missing := by
  obtain rfl : args = [] := List.eq_nil_of_length_eq_zero (by omega)
  rfl

theorem buzzerArg_of_short {args : Bytes} (h : args.length + 1 < 2) : buzzerArg args = .missing := by
  obtain rfl : args = [] := List.eq_nil_of_length_eq_zero (by omega)
  rfl

/-- R170: a pulsing BUZZER needs eight bytes. -/
theorem buzzerArg_of_short_pulse {args : Bytes} (hst : args.head? = some 0x02)
    (h : args.length + 1 < 8) : buzzerArg args = .pulseMissing := by
  fun_cases buzzerArg args with
  | case1 => cases hst
  | case2 => simp only [List.length_cons] at h; omega
  | case3 => rfl
  | case4 st rest hne => exact absurd (Option.some.inj hst) hne

theorem timeArg_of_short {args : Bytes} (h : args.length + 1 < 6) : timeArg args = .missing := by
  fun_cases timeArg args with
  | case1 => simp only [List.length_cons] at h; omega
  | case2 => rfl

/-! ## Truncated commands -/

/-- The commands on `k` of a payload that lacks a byte: an argument byte (R173) or the opcode (R175). -/
inductive Truncated (k : Nat) : Instr → Prop
  | testMode : Truncated k (.testMode k .missing)
  | ledRed : Truncated k (.ledRed k .missing)
  | ledGreen : Truncated k (.ledGreen k .missing)
  | buzzer : Truncated k (.buzzer k .missing)
  | buzzerPulse : Truncated k (.buzzer k .pulseMissing)
  | setTime : Truncated k (.setTime k .missing)
  | emptyPayload : Truncated k (.emptyPayload k)

/-- R174: bytes after those of a command that is not truncated are not read. -/
theorem decodeNamed_append (k : Nat) (args more : Bytes) (o : Opcode) :
    decodeNamed k (args ++ more) o = decodeNamed k args o ∨ Truncated k (decodeNamed k args o) := by
  cases o
  case testMode =>
    cases args with
    | nil => exact .inr .testMode
    | cons v rest => exact .inl rfl
  case ledRed =>
    cases args with
    | nil => exact .inr .ledRed
    | cons v rest => exact .inl rfl
  case ledGreen =>
    cases args with
    | nil => exact .inr .ledGreen
    | cons v rest => exact .inl rfl
  case buzzer =>
    simp only [decodeNamed]
    fun_cases buzzerArg args with
    | case1 => exact .inr .buzzer
    | case2 => exact .inl rfl
    | case3 => exact .inr .buzzerPulse
    | case4 st rest hne => exact .inl (congrArg (Instr.buzzer k) (if_neg hne))
  case setTime =>
    simp only [decodeNamed]
    fun_cases timeArg args with
    | case1 => exact .inl rfl
    | case2 => exact .inr .setTime
  all_goals exact .inl rfl

theorem decodePayload_append (m : OpcodeMap) (k : Nat) (p more : Bytes) :
    decodePayload m k (p ++ more) = decodePayload m k p ∨ Truncated k (decodePayload m k p) := by
  cases p with
  | nil => exact .inr .emptyPayload
  | cons op args =>
    simp only [List.cons_append, decodePayload]
    cases m.find op with
    | none => exact .inl rfl
    | some o => exact decodeNamed_append k args more o

end Sys2Proof
end

section
/-!
SUPPORT. What PARSE and the commands do where `k` is live (R160 to R177): each command writes the Mode record as
`WritesMode` lists, leaves it as it is, or is truncated and fails.
-/

namespace Sys2Proof.Machine

/-! ## The three kinds of commands -/

/-- R173, R175: a truncated command is one that finds no argument. -/
theorem exec_of_truncated {k : Nat} {i : Instr} (h : Truncated k i) (s : State) :
    exec i s = command s k fun _ => none := by
  cases h <;> rfl

theorem WritesMode.exec_eq_command {k : Nat} {i : Instr} {m m' : Mode} (h : WritesMode k i m m') :
    ∃ f : Mode → Option Mode, (∀ s : State, exec i s = command s k f) ∧ f m = some m' := by
  cases h
  case echo => exact ⟨_, fun s => show execEcho k s = _ from rfl, rfl⟩
  case testMode v => exact ⟨_, fun s => show execTestMode k (.byte v) s = _ from rfl, rfl⟩
  case ledRed v => exact ⟨_, fun s => show execLedRed k (.byte v) s = _ from rfl, rfl⟩
  case ledGreen v => exact ⟨_, fun s => show execLedGreen k (.byte v) s = _ from rfl, rfl⟩
  case buzzerState v => exact ⟨_, fun s => show execBuzzer k (.state v) s = _ from rfl, rfl⟩
  case buzzerPulse c i d => exact ⟨_, fun s => show execBuzzer k (.pulse c i d) s = _ from rfl, rfl⟩
  case setTime r t => exact ⟨_, fun s => show execSetTime k (.time r t) s = _ from rfl, rfl⟩

section
variable {s : State} {k : Nat} {x : Inst} {i : Instr} (hc : s.cfg.wf = true) (hx : s.live? k = some x)
include hc hx

/-- R162: a command that computes a record commits it and answers it. -/
theorem command_of_some {f : Mode → Option Mode} {m : Mode} (hm : f x.mode = some m) :
    command s k f = .next (finish (s.setInst k { x with mode := m }) .ok (.mode m)) := by
  rw [command_of_live hc hx, hm]

/-- R173: a command that computes none fails and writes nothing. -/
theorem command_of_none {f : Mode → Option Mode} (hm : f x.mode = none) :
    command s k f = .next (finish s .decodeFailure (.mode x.mode)) := by
  rw [command_of_live hc hx, hm]

theorem exec_of_truncated_of_live (h : Truncated k i) :
    exec i s = .next (finish s .decodeFailure (.mode x.mode)) :=
  (exec_of_truncated h s).trans (command_of_none hc hx rfl)

/-- A command that writes completes with the record `WritesMode` lists for it. -/
theorem exec_of_writesMode {m : Mode} (h : WritesMode k i x.mode m) :
    exec i s = .next (finish (s.setInst k { x with mode := m }) .ok (.mode m)) := by
  obtain ⟨f, hf, hm⟩ := h.exec_eq_command
  rw [hf, command_of_some hc hx hm]

end

/-! ## Single commands -/

/-- Settles O20: ECHO is among the commands that write (`exec_of_writesMode`). -/
theorem echoSetsEchoEnable : Obligations.EchoSetsEchoEnable :=
  fun _ _ x hc hx => exec_of_writesMode hc hx (.echo x.mode)

/-- Settles O21: each of them is the command that keeps the record (`command_unchanged`). -/
theorem noEffectCommandsChangeNothing : Obligations.NoEffectCommandsChangeNothing := by
  intro s k x op hc hx i hi
  have hrun : exec i s = command s k some := by fin_cases hi <;> rfl
  exact hrun.trans (command_unchanged hc hx)

/-- Settles O22: with their byte the three commands write, without it they are truncated. -/
theorem byteCommandsStoreTheirArgument : Obligations.ByteCommandsStoreTheirArgument := by
  intro s k x hc hx
  refine ⟨fun v => ⟨exec_of_writesMode hc hx (.testMode v x.mode),
    exec_of_writesMode hc hx (.ledRed v x.mode), exec_of_writesMode hc hx (.ledGreen v x.mode)⟩,
    fun i hi => exec_of_truncated_of_live hc hx ?_⟩
  fin_cases hi
  · exact .testMode
  · exact .ledRed
  · exact .ledGreen

/-- Settles O23: BUZZER writes in both complete forms and is truncated in the two others. -/
theorem buzzerStoresStateAndPulse : Obligations.BuzzerStoresStateAndPulse := by
  intro s k x hc hx
  refine ⟨fun v _ => exec_of_writesMode hc hx (.buzzerState v x.mode), exec_buzzer_pulse hc hx,
    fun i hi => exec_of_truncated_of_live hc hx ?_⟩
  fin_cases hi
  · exact .buzzer
  · exact .buzzerPulse

/-- Settles O24: SET_TIME with its bytes writes CLOCK whatever the reserved one is, and is truncated without. -/
theorem setTimeStoresTheClock : Obligations.SetTimeStoresTheClock :=
  fun _ _ _ hc hx => ⟨exec_setTime_time hc hx, exec_of_truncated_of_live hc hx .setTime⟩

/-! ## PARSE -/

/-- Settles O26: `execParse` dispatches as the decoder does. -/
theorem parseIsTheDecodedCommand : Obligations.ParseIsTheDecodedCommand :=
  fun s k p => exec_parse k p s

/-- Settles O25: every listed payload decodes to a truncated command. -/
theorem shortPayloadIsADecodeFailure : Obligations.ShortPayloadIsADecodeFailure := by
  intro s k x hc hx
  have hempty := exec_of_truncated_of_live hc hx (.emptyPayload (k := k))
  refine ⟨fun op args hshort => ?_, hempty, hempty⟩
  have hfail (o : Opcode) (ht : Truncated k (decodeNamed k args o)) :
      exec (.parse k (s.cfg.opcodeMap.byte o :: args)) s =
        .next (finish s .decodeFailure (.mode x.mode)) :=
    (exec_parse_byte hc k o args).trans (exec_of_truncated_of_live hc hx ht)
  rcases hshort with ⟨rfl | rfl | rfl | rfl, h⟩ | ⟨rfl, hst, h⟩ | ⟨rfl, h⟩
  · exact hfail .testMode (by rw [decodeNamed, byteArg_of_short h]; exact .testMode)
  · exact hfail .ledRed (by rw [decodeNamed, byteArg_of_short h]; exact .ledRed)
  · exact hfail .ledGreen (by rw [decodeNamed, byteArg_of_short h]; exact .ledGreen)
  · exact hfail .buzzer (by rw [decodeNamed, buzzerArg_of_short h]; exact .buzzer)
  · exact hfail .buzzer (by rw [decodeNamed, buzzerArg_of_short_pulse hst h]; exact .buzzerPulse)
  · exact hfail .setTime (by rw [decodeNamed, timeArg_of_short h]; exact .setTime)

/-- Settles O27: PARSE is a command, which ends in one of two ways where `k` is live (`command_of_some`,
`command_of_none`). -/
theorem parseCompletesOnLiveInstance : Obligations.ParseCompletesOnLiveInstance := by
  intro s k p x hc hx
  obtain ⟨f, hf⟩ := parse_is_command k p
  rw [hf]
  cases hm : f s.cfg.opcodeMap x.mode with
  | some m => exact .inl ⟨m, command_of_some hc hx hm⟩
  | none => exact .inr (command_of_none hc hx hm)

/-- Settles O30: what answers OK is not truncated, so the longer payload decodes to the same command
(`decodePayload_append`). -/
theorem extraPayloadBytesAreIgnored : Obligations.ExtraPayloadBytesAreIgnored := by
  intro s t k p more m _ h hok
  rw [exec_parse] at h ⊢
  rcases decodePayload_append s.cfg.opcodeMap k p more with heq | htrunc
  · rwa [heq]
  · rw [exec_of_truncated htrunc] at h
    rcases command_next h with ⟨r, rfl⟩ | ⟨x, -, ⟨m', hm', -⟩ | ⟨-, rfl⟩⟩
    · cases hok
    · cases hm'
    · cases hok

/-! ## PARSE twice -/

/-- Writing once more what was written changes nothing. -/
theorem WritesMode.idempotent {k : Nat} {i : Instr} {m m' : Mode} (h : WritesMode k i m m') :
    WritesMode k i m' m' := by
  cases h
  case echo => exact .echo _
  case testMode v => exact .testMode v _
  case ledRed v => exact .ledRed v _
  case ledGreen v => exact .ledGreen v _
  case buzzerState v => exact .buzzerState v _
  case buzzerPulse c i d => exact .buzzerPulse c i d _
  case setTime r t => exact .setTime r t _

/-- R224: a refusal repeated leaves the mark the first left. -/
theorem refuse_refuse (s : State) (r : RefusalCause) : refuse (refuse s r) r = refuse s r := by
  simp [refuse]

theorem finish_setInst_again (s : State) (k : Nat) (y : Inst) (rs : ResultState) (o : Output) :
    finish ((finish (s.setInst k y) rs o).setInst k y) rs o = finish (s.setInst k y) rs o := by
  simp [finish, State.setInst]

/-- Registers written as live over live ones are the live registers of `k`. -/
theorem live?_setInst {s : State} {k : Nat} {x y : Inst} (hx : s.live? k = some x)
    (hy : y.live = true) : (s.setInst k y).live? k = some y := by
  obtain ⟨hget, -⟩ := (live?_eq_some_iff s k x).mp hx
  obtain ⟨hk, -⟩ := List.getElem?_eq_some_iff.mp hget
  exact (live?_eq_some_iff ..).mpr ⟨by simp [hk], hy⟩

/-- What is refused, for the configuration or because `k` is not live, is refused again. -/
theorem onLive_refused_again {s t : State} {k : Nat}
    {body body' : Inst → Host.Outcome State Fault Refusal} (h : onLive s k body = .next t)
    (hs : s.cfg.wf = false ∨ s.live? k = none) : onLive t k body' = .next t := by
  cases hc : s.cfg.wf with
  | false =>
    have hrun := onConfig_of_not_wf (s := refuse s .illFormedConfig) hc
    obtain rfl : refuse s .illFormedConfig = t := by simpa [onLive, onConfig_of_not_wf hc] using h
    rw [onLive, hrun, refuse_refuse]
  | true =>
    have hx : s.live? k = none := hs.resolve_left (by simp [hc])
    obtain rfl : refuse s .notLive = t := by simpa [onLive_of_not_live hc hx] using h
    rw [onLive_of_not_live (s := refuse s .notLive) hc hx, refuse_refuse]

section
variable {s t : State} {k : Nat} {x : Inst} {i : Instr} {f : Mode → Option Mode}
  (hf : ∀ s, exec i s = command s k f)
  (hw : ∀ m m', f m = some m' → m' = m ∨ WritesMode k i m m')
include hf hw

/-- A command that has completed finds its own record and computes it again. -/
theorem exec_again_of_live (hc : s.cfg.wf = true) (hx : s.live? k = some x)
    (h : exec i s = .next t) : exec i t = .next t := by
  obtain ⟨-, hl⟩ := (live?_eq_some_iff s k x).mp hx
  cases hm : f x.mode with
  | none =>
    obtain rfl : finish s .decodeFailure (.mode x.mode) = t := by
      simpa [hf, command_of_none hc hx hm] using h
    rw [hf]
    exact command_of_none (s := finish s .decodeFailure (.mode x.mode)) hc hx hm
  | some m =>
    have ht : finish (s.setInst k { x with mode := m }) .ok (.mode m) = t := by
      simpa [hf, command_of_some hc hx hm] using h
    have hct : t.cfg.wf = true := ht ▸ hc
    have hxt : t.live? k = some { x with mode := m } := ht ▸ live?_setInst hx hl
    have hagain : finish (t.setInst k { x with mode := m }) .ok (.mode m) = t := by
      rw [← ht, finish_setInst_again]
    have hrun : exec i t = .next (finish (t.setInst k { x with mode := m }) .ok (.mode m)) := by
      rcases hw _ _ hm with rfl | hwrites
      · rw [hf]
        exact command_of_some hct hxt hm
      · exact exec_of_writesMode hct hxt hwrites.idempotent
    rw [hrun, hagain]

end

/-- R177: a command run twice is the command run once. -/
theorem RunsCommand.exec_again {k : Nat} {i : Instr} (hi : RunsCommand k i) {s t : State}
    (h : exec i s = .next t) : exec i t = .next t := by
  obtain ⟨f, hf, hw⟩ := hi
  have hrefused (hs : s.cfg.wf = false ∨ s.live? k = none) : exec i t = .next t := by
    rw [hf] at h ⊢
    exact onLive_refused_again h hs
  cases hc : s.cfg.wf with
  | false => exact hrefused (.inl hc)
  | true =>
    cases hx : s.live? k with
    | none => exact hrefused (.inr hx)
    | some x => exact exec_again_of_live hf hw hc hx h

/-- Settles O31: PARSE runs the same command both times, since no command writes the opcode map. -/
theorem parseTwiceIsParseOnce : Obligations.ParseTwiceIsParseOnce := by
  intro s t k p h
  obtain ⟨-, -, hcfg, -⟩ := (exec_ends h).frame
  rw [exec_parse] at h ⊢
  rw [hcfg]
  exact (runsCommand_decodePayload s.cfg.opcodeMap k p).exec_again h

end Sys2Proof.Machine
end

section
/-!
SUPPORT. A Device State record takes the bytes of its layout (R8, R29, R201), so it fits a frame together with
an opcode, and BUILD_ACK is FRAME_ENCODE of the two (R200, R202, R203).
-/

namespace Sys2Proof

/-! ## One field -/

/-- R201: a 16-bit field is its two base-256 digits, the low one first. -/
theorem toNat_serialize_f16 (a : BitVec 16) :
    (DevField.f16 a).serialize.map BitVec.toNat = [a.toNat % 256, a.toNat / 256] := by
  simp [DevField.serialize, Nat.shiftRight_eq_div_pow]
  omega

/-- R201: a 32-bit field is its four base-256 digits, the lowest first. -/
theorem toNat_serialize_f32 (a : BitVec 32) :
    (DevField.f32 a).serialize.map BitVec.toNat =
      [a.toNat % 256, a.toNat / 256 % 256, a.toNat / 65536 % 256, a.toNat / 16777216] := by
  simp [DevField.serialize, Nat.shiftRight_eq_div_pow]
  omega

@[simp] theorem DevField.length_serialize (f : DevField) : f.serialize.length = f.width.size := by
  cases f <;> rfl

/-- R29: a zero field is zero bytes. -/
theorem FieldWidth.serialize_zero (w : FieldWidth) : w.zero.serialize = List.replicate w.size 0 := by
  cases w <;> rfl

/-! ## A record -/

@[simp] theorem stateSize_cons (w : FieldWidth) (l : List FieldWidth) :
    stateSize (w :: l) = w.size + stateSize l := rfl

theorem DevRecord.length_serialize (r : DevRecord) :
    r.serialize.length = stateSize (r.fields.map DevField.width) := by
  simp [DevRecord.serialize, stateSize, List.length_flatMap, Function.comp_def]

theorem DevRecord.isOf_iff {c : Config} {v : Nat} {r : DevRecord} :
    r.isOf c v = true ↔ r.variant = v ∧ c.variants[v]? = some (r.fields.map DevField.width) := by
  simp [DevRecord.isOf]

/-- R29: a record of a revision takes that revision's STATE_SIZE bytes. -/
theorem DevRecord.length_serialize_of_isOf {c : Config} {v : Nat} {l : List FieldWidth}
    {r : DevRecord} (hr : r.isOf c v = true) (hl : c.variants[v]? = some l) :
    r.serialize.length = stateSize l := by
  obtain ⟨-, hw⟩ := DevRecord.isOf_iff.mp hr
  obtain rfl : l = r.fields.map DevField.width := by simpa [hl] using hw
  exact r.length_serialize

/-- R8: a well-formed configuration has no layout above 252 bytes. -/
theorem stateSize_le_of_wf {c : Config} {v : Nat} {l : List FieldWidth} (hc : c.wf = true)
    (hl : c.variants[v]? = some l) : stateSize l ≤ 252 := by
  simp only [Config.wf, Bool.and_eq_true, List.all_eq_true, decide_eq_true_eq] at hc
  obtain ⟨-, hsizes⟩ := hc
  exact hsizes l (List.mem_of_getElem? hl)

/-- R202: a record of a revision serializes in at most 252 bytes. -/
theorem DevRecord.length_serialize_le {c : Config} {v : Nat} {r : DevRecord} (hc : c.wf = true)
    (hr : r.isOf c v = true) : r.serialize.length ≤ 252 := by
  rw [r.length_serialize]
  exact stateSize_le_of_wf hc (DevRecord.isOf_iff.mp hr).2

theorem serialize_map_zero (v : Nat) (l : List FieldWidth) :
    (⟨v, l.map FieldWidth.zero⟩ : DevRecord).serialize = List.replicate (stateSize l) 0 := by
  induction l with
  | nil => rfl
  | cons w l ih =>
    rw [stateSize_cons, List.replicate_add, ← ih, ← w.serialize_zero]
    rfl

/-- R29, R240: the zero record of a revision is STATE_SIZE zero bytes. -/
theorem serialize_zeroRecord {c : Config} {v : Nat} {l : List FieldWidth}
    (hl : c.variants[v]? = some l) :
    (zeroRecord c v).serialize = List.replicate (stateSize l) 0 := by
  simp only [zeroRecord, hl, Option.getD_some, serialize_map_zero]

/-- Settles O34: the fields' bytes are base-256 digits, and a record of a revision has its layout's widths. -/
theorem deviceStateSerialization : Obligations.DeviceStateSerialization := by
  refine ⟨fun v f fs => ⟨rfl, rfl⟩, fun a => rfl, toNat_serialize_f16, toNat_serialize_f32,
    fun c v l hc hl => ?_⟩
  obtain ⟨hv, -⟩ := List.getElem?_eq_some_iff.mp hl
  exact ⟨stateSize_le_of_wf hc hl, Machine.zeroRecord_isOf hv, serialize_zeroRecord hl,
    fun r hr => DevRecord.length_serialize_of_isOf hr hl⟩

namespace Machine

/-! ## BUILD_ACK -/

section
variable {s : State} {k : Nat} {x : Inst} (hc : s.cfg.wf = true) (hx : s.live? k = some x) (op : Byte)
include hc hx

/-- R200: BUILD_ACK on live registers answers the built frame. -/
theorem exec_buildAck_of_live :
    exec (.buildAck k op) s = .next (finish s .ok (.bytes
      (buildFrame s.crcTable s.magic (op :: x.dev.serialize)))) :=
  onLive_of_live hc hx _

/-- R203: the opcode and a record of at most 252 bytes are a payload FRAME_ENCODE takes. -/
theorem exec_buildAck_eq_frameEncode (hd : x.dev.serialize.length ≤ 252) :
    exec (.buildAck k op) s = exec (.frameEncode (op :: x.dev.serialize)) s := by
  have hp : (op :: x.dev.serialize).length ≤ 253 := Nat.succ_le_succ hd
  rw [exec_buildAck_of_live hc hx, exec_frameEncode_of_length hc hp]

end

/-- R29, R31, R202: in a state that meets the invariant the record in live registers fits. -/
theorem State.Inv.length_serialize_le {s : State} {k : Nat} {x : Inst} (hs : s.Inv)
    (hc : s.cfg.wf = true) (hx : s.live? k = some x) : x.dev.serialize.length ≤ 252 := by
  obtain ⟨hget, hlive⟩ := (live?_eq_some_iff s k x).mp hx
  exact DevRecord.length_serialize_le hc (hs.record x (List.mem_of_getElem? hget) hlive)

/-- Settles O33: the record fits a frame with the opcode, so the round trip of FRAME_ENCODE (R123) is that of
BUILD_ACK. -/
theorem buildAckIsFrameEncode : Obligations.BuildAckIsFrameEncode := by
  intro s k x op hc hs hx
  have hd := hs.length_serialize_le hc hx
  have heq := exec_buildAck_eq_frameEncode hc hx op hd
  obtain ⟨f, henc, hstrip, hvalid⟩ :=
    encodedFrameStripsAndValidates s (op :: x.dev.serialize) hc hs.marker (Nat.succ_le_succ hd)
  exact ⟨heq, f, heq.trans henc, hvalid, hstrip⟩

/-- Settles O32: the built frame, byte by byte, of a payload one byte longer than the record. -/
theorem buildAckFramesTheDeviceState : Obligations.BuildAckFramesTheDeviceState := by
  intro s k x op hc hx hm
  have hframe := buildFrame_magicRom s.crcTable (op :: x.dev.serialize)
  rw [← hm] at hframe
  refine ⟨_, rfl, ?_, by simp⟩
  rw [exec_buildAck_of_live hc hx, hframe]
  rfl

end Machine
end Sys2Proof
end

section
/-!
SUPPORT. What MODE_READ, DEVSTATE_LOAD and FAULT_READ do under a well-formed configuration: the reads answer
the register as it stands, and DEVSTATE_LOAD depends on whether the record is one of PROTO_VARIANT[k]
(R210 to R212, R224).
-/

namespace Sys2Proof.Machine

section
variable {s : State} (hc : s.cfg.wf = true)
include hc

/-- R212: FAULT_READ G needs no live instance. -/
theorem exec_faultRead_global :
    exec (.faultRead .global) s = .next (finish s .ok (.faultReg s.faultG)) :=
  onConfig_of_wf hc _

variable {k : Nat} {x : Inst} (hx : s.live? k = some x)
include hx

/-- R210: MODE_READ answers the whole record. -/
theorem exec_modeRead_of_live :
    exec (.modeRead k) s = .next (finish s .ok (.mode x.mode)) :=
  onLive_of_live hc hx _

/-- R212: FAULT_READ answers the register and does not clear it. -/
theorem exec_faultRead_of_live :
    exec (.faultRead (.ofInst k)) s = .next (finish s .ok (.faultReg x.fault)) :=
  onLive_of_live hc hx _

theorem exec_devstateLoad_of_live (r : DevRecord) :
    exec (.devstateLoad k r) s =
      if r.isOf s.cfg x.variant then .next (finish (s.setInst k { x with dev := r }) .ok .nothing)
      else .next (refuse s .wrongVariant) :=
  onLive_of_live hc hx _

/-- R211: a record of PROTO_VARIANT[k] is written whole. -/
theorem exec_devstateLoad_of_isOf {r : DevRecord} (hr : r.isOf s.cfg x.variant = true) :
    exec (.devstateLoad k r) s = .next (finish (s.setInst k { x with dev := r }) .ok .nothing) := by
  rw [exec_devstateLoad_of_live hc hx, if_pos hr]

/-- R224: any other record is refused, whether its tag or its layout differs
(notes/assumptions/12.md). -/
theorem exec_devstateLoad_of_not_isOf {r : DevRecord} (hr : r.isOf s.cfg x.variant = false) :
    exec (.devstateLoad k r) s = .next (refuse s .wrongVariant) := by
  rw [exec_devstateLoad_of_live hc hx, if_neg (Bool.eq_false_iff.mp hr)]

end

/-- Settles O35: each read ends by `finish` on the unchanged state. -/
theorem readsAnswerTheRegister : Obligations.ReadsAnswerTheRegister :=
  fun _ hc => ⟨exec_faultRead_global hc, fun _ _ hx =>
    ⟨exec_modeRead_of_live hc hx, exec_faultRead_of_live hc hx⟩⟩

/-- Settles O36: one clause for each answer of `DevRecord.isOf`. -/
theorem devstateLoadWritesTheRecord : Obligations.DevstateLoadWritesTheRecord :=
  fun _ _ _ _ hc hx => ⟨exec_devstateLoad_of_isOf hc hx, exec_devstateLoad_of_not_isOf hc hx⟩

end Sys2Proof.Machine
end

section
/-!
SUPPORT. The checks of R225 stand before every operation, and behind them only CONNECT can stop (R215, R220,
R224): `exec_eq_onLive` and `exec_eq_onConfig` say so once for all instructions. What the marks of a run hold
is read by none of it (R227).
-/

namespace Sys2Proof.Machine

/-! ## The check that an instance is live -/

/-- R160, R162, R173: a command is checked for its instance first, and completes behind the check. -/
theorem command_eq_onLive (s : State) (k : Nat) (f : Mode → Option Mode) :
    ∃ body, command s k f = onLive s k body ∧ ∀ x, ∃ t, body x = .next t := by
  refine ⟨_, rfl, fun x => ?_⟩
  cases f x.mode with
  | some m => exact ⟨_, rfl⟩
  | none => exact ⟨_, rfl⟩

/-- R225, 1 and 2: an operation on `k` other than CONNECT and DISCONNECT is checked for a live `k` first, and
completes behind the check. -/
theorem exec_eq_onLive {i : Instr} {k : Nat} (hk : i.names = some k) (hcon : ∀ v, i ≠ .connect k v)
    (hdis : i ≠ .disconnect k) (s : State) :
    ∃ body, exec i s = onLive s k body ∧ ∀ x, ∃ t, body x = .next t := by
  cases hp : encode s.cfg.opcodeMap i with
  | some p =>
    obtain ⟨f, hf, -⟩ := runsCommand_of_encode hk hp
    rw [hf]
    exact command_eq_onLive s k f
  | none =>
    cases i <;> simp only [encode, reduceCtorEq] at hp
    case parse j p =>
      cases hk
      obtain ⟨f, hf, -⟩ := runsCommand_decodePayload s.cfg.opcodeMap k p
      rw [exec_parse, hf]
      exact command_eq_onLive s k f
    case buildAck j op =>
      cases hk
      exact ⟨_, rfl, fun x => ⟨_, rfl⟩⟩
    case modeRead j =>
      cases hk
      exact ⟨_, rfl, fun x => ⟨_, rfl⟩⟩
    case devstateLoad j r =>
      cases hk
      refine ⟨_, rfl, fun x => ?_⟩
      split
      · exact ⟨_, rfl⟩
      · exact ⟨_, rfl⟩
    case faultRead sel =>
      cases sel <;> cases hk
      exact ⟨_, rfl, fun x => ⟨_, rfl⟩⟩
    case connect j v =>
      cases hk
      exact absurd rfl (hcon v)
    case disconnect j =>
      cases hk
      exact absurd rfl hdis
    all_goals cases hk

/-! ## The check of the configuration -/

theorem wf_connect_iff {c : Config} {k v : Nat} :
    (Instr.connect k v).wf c = true ↔ k < c.nInstances ∧ v < c.variants.length := by
  simp [Instr.wf, Instr.instanceOk, Instr.operandsOk, Instr.names]

/-- R225, 1: every operation is checked for the configuration first, and a well-formed one completes behind
the check. -/
theorem exec_eq_onConfig (i : Instr) (s : State) :
    ∃ body, exec i s = onConfig s body ∧ (i.wf s.cfg = true → ∃ t, body = .next t) := by
  cases hk : i.names with
  | none =>
    by_cases hg : i = .faultRead .global
    · subst hg
      exact ⟨_, rfl, fun _ => ⟨_, rfl⟩⟩
    · obtain ⟨R, hR⟩ := exec_unnamed_answer hk hg
      obtain ⟨t, ht, -⟩ := hR s
      exact ⟨_, ht, fun _ => ⟨t, rfl⟩⟩
  | some k =>
    by_cases hcon : ∃ v, i = .connect k v
    · obtain ⟨v, rfl⟩ := hcon
      refine ⟨_, rfl, fun hwf => ?_⟩
      obtain ⟨hk, hv⟩ := wf_connect_iff.mp hwf
      exact ⟨_, (if_pos hk).trans (if_pos hv)⟩
    by_cases hdis : i = .disconnect k
    · subst hdis
      refine ⟨_, rfl, fun _ => ?_⟩
      cases s.live? k with
      | some x => exact ⟨_, rfl⟩
      | none => exact ⟨_, rfl⟩
    obtain ⟨body, hb, hnext⟩ := exec_eq_onLive hk (not_exists.mp hcon) hdis s
    refine ⟨_, hb, fun _ => ?_⟩
    cases s.live? k with
    | some x => exact hnext x
    | none => exact ⟨_, rfl⟩

/-- R224: where the check fails the operation completes too, refused. -/
theorem onConfig_completes (s : State) {body : Host.Outcome State Fault Refusal}
    (h : ∃ t, body = .next t) : ∃ t, onConfig s body = .next t := by
  cases hc : s.cfg.wf with
  | false => exact ⟨_, onConfig_of_not_wf hc body⟩
  | true => rwa [onConfig_of_wf hc]

/-! ## Endings -/

/-- R215: each ending holds a return. -/
theorem Ends.response {i : Instr} {s t : State} (h : Ends i s t) : ∃ r, t.response = some r := by
  cases h <;> exact ⟨_, rfl⟩

/-- R37, R71: an operation that names no instance writes no register set. -/
theorem Ends.insts_of_unnamed {i : Instr} {s t : State} (h : Ends i s t) (hi : i.names = none) :
    t.insts = s.insts :=
  List.ext_getElem? fun _ => h.inst_of_not_named (by simp [hi])

/-! ## The statements -/

/-- Settles O41: the check that `k` is live stands before the operation (`exec_eq_onLive`). -/
theorem notLiveIsRefused : Obligations.NotLiveIsRefused := by
  intro s i k hc hk hx hcon hdis
  obtain ⟨body, hb, -⟩ := exec_eq_onLive hk hcon hdis s
  exact hb.trans (onLive_of_not_live hc hx body)

/-- Settles O42: the check of the configuration stands before every operation (`exec_eq_onConfig`). -/
theorem illFormedConfigRunsNothing : Obligations.IllFormedConfigRunsNothing := by
  intro s i hc
  obtain ⟨body, hb, -⟩ := exec_eq_onConfig i s
  exact hb.trans (onConfig_of_not_wf hc body)

/-- Settles O43: a well-formed instruction completes before or behind the check of the configuration, and
every ending holds a return. -/
theorem everyInstructionCompletes : Obligations.EveryInstructionCompletes := by
  intro s i hwf
  obtain ⟨body, hb, hnext⟩ := exec_eq_onConfig i s
  obtain ⟨t, ht⟩ := onConfig_completes s (hnext hwf)
  have hrun := hb.trans ht
  obtain ⟨r, hr⟩ := (exec_ends hrun).response
  exact ⟨t, r, hrun, hr⟩

/-- Settles O56: FAULT_G and the mark are outside what an operation on an instance may read (`exec_effect`),
and an operation that names none answers from the read-only memories (O55). -/
theorem heldFaultChangesNoLaterOperation : Obligations.HeldFaultChangesNoLaterOperation := by
  intro s t i g m hg h
  cases hk : i.names with
  | some k =>
    obtain ⟨e, he⟩ := exec_effect hk h
    obtain rfl : e.apply k s = t := by simpa [he s (.refl k s)] using h
    exact ⟨_, he _ ⟨rfl, rfl, rfl, rfl⟩, rfl, rfl⟩
  | none =>
    obtain ⟨hinsts, t', ht', hresp⟩ :=
      unnamedOperationsReadOnlyTheRoms s { s with faultG := g, refused := m } t i hk hg rfl rfl rfl h
    exact ⟨t', ht', hresp, ((exec_ends ht').insts_of_unnamed hk).trans hinsts.symm⟩

end Sys2Proof.Machine
end

section
/-!
SUPPORT. Recovery of a frame and the life of an instance (R240, R242, R246): what FRAME_SCAN found is whole inside
the buffer and ends in its checksum, so it validates and strips; CONNECT and DISCONNECT write one register set.
-/

namespace Sys2Proof.Machine

/-! ## A found frame -/

/-- A slice of a slice is one slice, where it does not reach past the first. -/
theorem slice_slice (b : Bytes) {i j c : Nat} (a : Nat) (h : i + c ≤ j) :
    slice (slice b i j) a c = slice b (i + a) (i + c) := by
  simp [slice, List.take_drop, List.take_take, Nat.min_eq_left h]

/-- A slice that goes one byte further holds that byte last. -/
theorem slice_succ {b : Bytes} {i j : Nat} {c : Byte} (hij : i ≤ j) (hc : b[j]? = some c) :
    slice b i (j + 1) = slice b i j ++ [c] := by
  have hj : j < b.length := (List.getElem?_eq_some_iff.mp hc).1
  have hlen : i ≤ (b.take j).length := by
    rw [List.length_take]
    omega
  rw [slice, List.take_add_one, hc, List.drop_append_of_le_length hlen]
  rfl

/-- R142: a frame has as many bytes as its length says. -/
theorem FrameAt.length_slice {t magic buf : Bytes} {o n : Nat} (h : FrameAt t magic buf o n) :
    (slice buf o (o + n)).length = n := by
  obtain ⟨-, hle⟩ := h.bounds
  rw [slice_length, Nat.min_eq_left hle, Nat.add_sub_cancel_left]

/-- R137, R138: a frame ends in the checksum of its other bytes. -/
theorem FrameAt.frameValid_slice {t magic buf : Bytes} {o n : Nat} (h : FrameAt t magic buf o n) :
    frameValid t (slice buf o (o + n)) = true := by
  obtain ⟨h5, -⟩ := h.bounds
  obtain ⟨-, l, -, -, -, -, hcrc⟩ := h
  have hend : o + n = o + n - 1 + 1 := by omega
  rw [hend, slice_succ (by omega) hcrc, frameValid_append_singleton, beq_self_eq_true]

/-- Settles O19: what the scan found is a frame (`frameAt_of_scanFrame`), of 5 bytes or more that end in their
checksum, and the payload is a slice of it. -/
theorem foundFrameStripsWithoutFault : Obligations.FoundFrameStripsWithoutFault := by
  intro s buf o n hc hfound
  have hf : FrameAt s.crcTable s.magic buf o n :=
    frameAt_of_scanFrame ((exec_frameScan_found_iff hc buf o n).mp hfound)
  obtain ⟨h5, -⟩ := hf.bounds
  have hlen := hf.length_slice
  refine ⟨hlen, h5, (exec_frameValidate_valid_iff hc _).mpr hf.frameValid_slice, ?_⟩
  rw [exec_frameStrip_of_length hc (hlen.symm ▸ h5), hlen, slice_slice buf 4 (by omega),
    ← Nat.add_sub_assoc (by omega)]
  rfl

/-! ## Connection and teardown -/

/-- R240: a CONNECT in range writes the register set of a connected instance, whatever stood there. -/
theorem exec_connect_of_lt {s : State} {k v : Nat} (hc : s.cfg.wf = true) (hk : k < s.cfg.nInstances)
    (hv : v < s.cfg.variants.length) :
    exec (.connect k v) s = .next (finish (s.setInst k (connectedInst s.cfg v)) .ok .nothing) :=
  (onConfig_of_wf hc _).trans ((if_pos hk).trans (if_pos hv))

/-- R242: DISCONNECT of a live instance writes its register set with LIVE cleared. -/
theorem exec_disconnect_of_live {s : State} {k : Nat} {x : Inst} (hc : s.cfg.wf = true)
    (hx : s.live? k = some x) :
    exec (.disconnect k) s = .next (finish (s.setInst k { x with live := false }) .ok .nothing) := by
  rw [exec, execDisconnect, onConfig_of_wf hc, hx]

/-- R242: DISCONNECT of an instance that is not live writes no register. -/
theorem exec_disconnect_of_not_live {s : State} {k : Nat} (hc : s.cfg.wf = true)
    (hx : s.live? k = none) : exec (.disconnect k) s = .next (finish s .ok .nothing) := by
  rw [exec, execDisconnect, onConfig_of_wf hc, hx]

/-- R33: an instance whose register set was written with LIVE clear is not live. -/
theorem live?_setInst_of_not_live (s : State) (k : Nat) {y : Inst} (hy : y.live = false) :
    (s.setInst k y).live? k = none := by
  rw [live?_eq_none_iff]
  intro z hz
  rw [setInst_insts, List.getElem?_set_self'] at hz
  obtain ⟨-, -, rfl⟩ := Option.map_eq_some_iff.mp hz
  exact hy

/-- Settles O38: the five values are those of `connectedInst`. -/
theorem connectResetsTheInstance : Obligations.ConnectResetsTheInstance :=
  fun _ _ _ hc hk hv => exec_connect_of_lt hc hk hv

/-- Settles O40: one clause for each answer of `live?`; the register set written holds LIVE clear. -/
theorem disconnectClearsLive : Obligations.DisconnectClearsLive :=
  fun s k hc => ⟨fun _ hx => ⟨_, exec_disconnect_of_live hc hx, rfl,
    live?_setInst_of_not_live s k rfl⟩, exec_disconnect_of_not_live hc⟩

end Sys2Proof.Machine
end

section
/-!
SUPPORT. A CONNECT out of range (entry 11): the instance number and then the revision are held against the
configuration, and what either check refuses stops by the name of that check.
-/

namespace Sys2Proof.Machine

/-- Entry 11: CONNECT of an instance number at or above N_INSTANCES names no instance, whatever the
revision. -/
theorem exec_connect_of_nInstances_le {s : State} {k : Nat} (v : Nat) (hc : s.cfg.wf = true)
    (hk : s.cfg.nInstances ≤ k) : exec (.connect k v) s = .refused .noSuchInstance :=
  (onConfig_of_wf hc _).trans (if_neg hk.not_gt)

/-- Entry 11: CONNECT of an instance of the configuration with a revision it does not hold names no
revision. -/
theorem exec_connect_of_variants_length_le {s : State} {k v : Nat} (hc : s.cfg.wf = true)
    (hk : k < s.cfg.nInstances) (hv : s.cfg.variants.length ≤ v) :
    exec (.connect k v) s = .refused .noSuchRevision :=
  (onConfig_of_wf hc _).trans ((if_pos hk).trans (if_neg hv.not_gt))

/-- Settles O39: the instance number is tested first, then the revision. -/
theorem connectOutOfRangeStops : Obligations.ConnectOutOfRangeStops :=
  fun _ _ v hc => ⟨exec_connect_of_nInstances_le v hc, exec_connect_of_variants_length_le hc⟩

end Sys2Proof.Machine
end
